-- ==== Sys2Proof/Word.lean ====
section
/-! DEFINITION. The unit of the hoist line: a byte. Everything the manual counts (depths, speeds, times, loads) is
an integer there ("All quantities are integers", 00_scope.md, Conventions) and is a `Nat` or an `Int` here; bit
vectors hold only what travels or is held as bits: line bytes, check sequences, pending sets, strap levels. -/

namespace Sys2Proof

/-- One byte of the hoist line (00_scope.md: "a byte frame of ten line bits: one start bit, eight data bits"). -/
abbrev Byte := BitVec 8

end Sys2Proof
end

