-- ==== Sys2Proof/Syntax.lean ====
section
/-! DEFINITION. The commands of the TH-418: one constructor per row of spec/opcode_table.json, each one whole and
indivisible step of the part (95_what_each_step_holds.md).

`dt` in every constructor is the time in µs since the command before it: the part's blocks read the time base at
most events, and the table has no row for a tick, so each event carries its own moment (DESIGN CHOICE, log 1).
The rows of the request engine carry no other operand: their operands are the bytes of the REQUEST frame that
stands at the head of the request queue, which State holds (R174; log 3). -/

namespace Sys2Proof

/-- The four hoists (00_scope.md, Channel numbering). -/
inductive Chan where
  | c0 | c1 | c2 | c3
  deriving DecidableEq, Repr

/-- The two line ports (00_scope.md): U faces the dispatch controller, D the drives and the signalling unit. -/
inductive PortId where
  | u | d
  deriving DecidableEq, Repr

/-- The commands. -/
inductive Instr where
  /-- STATUS (R180): the engine takes a STATUS request. -/
  | status (dt : Nat)
  /-- FETCH_NOTICES (R183). -/
  | fetchNotices (dt : Nat)
  /-- TABLE_WRITE (R9, R10). -/
  | tableWrite (dt : Nat)
  /-- TABLE_READ (R12). -/
  | tableRead (dt : Nat)
  /-- COPY_ACTIVE (R13). -/
  | copyActive (dt : Nat)
  /-- ACTIVATE_ALL (R14): the engine takes an ACTIVATE of scope ALL. -/
  | activateAll (dt : Nat)
  /-- ACTIVATE_ZONES (R14, R19): the engine takes an ACTIVATE of scope ZONES. -/
  | activateZones (dt : Nat)
  /-- ACTIVATE_ALL_COMPLETION (R14 to R18). -/
  | activateAllCompletion (dt : Nat)
  /-- ACTIVATE_ZONES_COMPLETION (R14, R17, R19). -/
  | activateZonesCompletion (dt : Nat)
  /-- LIST_WRITE (R104, R105). -/
  | listWrite (dt : Nat)
  /-- LIST_READ (R106). -/
  | listRead (dt : Nat)
  /-- START_LIST (R97, R110). -/
  | startList (dt : Nat)
  /-- CONTINUE (R97, R120). -/
  | continueList (dt : Nat)
  /-- STOP (R92). -/
  | stop (dt : Nat)
  /-- TRAFFIC (R86). -/
  | traffic (dt : Nat)
  /-- RESPOND (R123 to R126). -/
  | respond (dt : Nat)
  /-- PARK (R98). -/
  | park (dt : Nat)
  /-- RELEASE (R140). -/
  | release (dt : Nat)
  /-- SET_DEPTH (R43, R44). -/
  | setDepth (dt : Nat)
  /-- QUIESCE_CONDITIONAL (R144). -/
  | quiesceConditional (dt : Nat)
  /-- QUIESCE_FORCED (R145). -/
  | quiesceForced (dt : Nat)
  /-- THAW (R146). -/
  | thaw (dt : Nat)
  /-- CLEAR_TRIP (R149). -/
  | clearTrip (dt : Nat)
  /-- RESET_RING (R153): the engine takes a RESET of scope RING. -/
  | resetRing (dt : Nat)
  /-- RESET_FULL (R153): the engine takes a RESET of scope FULL. -/
  | resetFull (dt : Nat)
  /-- RESET_TAKES_PLACE (R153, R178); `straps` are the levels of ADDR_S3 to ADDR_S0, sampled for scope FULL. -/
  | resetTakesPlace (dt : Nat) (straps : BitVec 4)
  /-- UNKNOWN_REQUEST (R176). -/
  | unknownRequest (dt : Nat)
  /-- CLASSIFY_UPSTREAM_FRAME (R166): the classifier takes the oldest frame of port U's receive queue. -/
  | classifyUpstreamFrame (dt : Nat)
  /-- CLASSIFY_DOWNSTREAM_FRAME (R167): the classifier takes the oldest frame of port D's receive queue. -/
  | classifyDownstreamFrame (dt : Nat)
  /-- TOOTH_EVENT (R25): a rising edge of the channel's TA with TB high or low. -/
  | toothEvent (dt : Nat) (c : Chan) (tbHigh : Bool)
  /-- EMISSION_EXPIRY (R80). -/
  | emissionExpiry (dt : Nat) (c : Chan)
  /-- DEMAND_TIMER_EXPIRY (R87). -/
  | demandTimerExpiry (dt : Nat) (c : Chan)
  /-- FEEDBACK_TIMER_EXPIRY (R82). -/
  | feedbackTimerExpiry (dt : Nat) (c : Chan)
  /-- STALL_WATCH_EXPIRY (R46). -/
  | stallWatchExpiry (dt : Nat) (c : Chan)
  /-- DWELL_EXPIRY (R114). -/
  | dwellExpiry (dt : Nat) (c : Chan)
  /-- DURATION_EXPIRY (R130). -/
  | durationExpiry (dt : Nat) (c : Chan)
  /-- PROVE_EXPIRY (R140). -/
  | proveExpiry (dt : Nat) (c : Chan)
  /-- BRAKE_CONFIRM_EXPIRY (R136, R137, R141). -/
  | brakeConfirmExpiry (dt : Nat) (c : Chan)
  /-- TRIP_ASSERTION (R147): TRIP_N falls. -/
  | tripAssertion (dt : Nat)
  /-- TRIP_NEGATION (R148): TRIP_N rises. -/
  | tripNegation (dt : Nat)
  /-- RESET_N_ASSERT (R151): RESET_N falls. -/
  | resetNAssert (dt : Nat)
  /-- RING_RESET (R151): RESET_N rises less than 20 ms after it fell. -/
  | ringReset (dt : Nat)
  /-- FULL_RESET_BEGIN (R152): RESET_N has been held for 20 ms. -/
  | fullResetBegin (dt : Nat)
  /-- FULL_RESET_COMPLETE (R152): RESET_N rises after a full reset; `straps` are the strap levels sampled. -/
  | fullResetComplete (dt : Nat) (straps : BitVec 4)
  /-- POWER_ON_RESET (R154); `straps` are the strap levels sampled. -/
  | powerOnReset (dt : Nat) (straps : BitVec 4)
  /-- FRAME_COMPLETE (R157): the CHECK byte of the frame in reception is received. -/
  | frameComplete (dt : Nat) (p : PortId) (check : Byte)
  /-- FRAME_LEN_EXCEEDED (R156): the LEN byte received is above 48. -/
  | frameLenExceeded (dt : Nat) (p : PortId) (len : Byte)
  /-- FRAMING_ERROR (R156): a byte's stop bit is at the break level. -/
  | framingError (dt : Nat) (p : PortId)
  /-- FRAME_CUT (R158): the line has been idle for `idle` µs since the last byte of the frame in reception. -/
  | frameCut (dt : Nat) (p : PortId) (idle : Nat)
  /-- HUNT_IDLE_CLEAR (R156): the line has stood at the idle level for `idle` µs. -/
  | huntIdleClear (dt : Nat) (p : PortId) (idle : Nat)
  /-- LINE_STUCK (R160): the receive line has been held at break for `held` µs. -/
  | lineStuck (dt : Nat) (p : PortId) (held : Nat)
  /-- LINE_FREED (R161): the receive line leaves the break level. -/
  | lineFreed (dt : Nat) (p : PortId)
  /-- FRAME_TRANSMIT_START (R162). -/
  | frameTransmitStart (dt : Nat) (p : PortId)
  /-- FRAME_TRANSMIT_END (R162). -/
  | frameTransmitEnd (dt : Nat) (p : PortId)
  /-- FRAME_BYTE_RECEIVED (R156): a byte with a good stop bit. -/
  | frameByteReceived (dt : Nat) (p : PortId) (b : Byte)
  deriving DecidableEq, Repr

end Sys2Proof
end

