-- ==== Sys2Proof/Decode.lean ====
section
/-! DEFINITION. The part has no opcode words: no row of spec/opcode_table.json gives bits ("n_rows_with_fields": 0,
98_reader.md), so no word spells a command and the decoder refuses every word. What the part decodes are the
bytes of its line frames; that is Machine/Operands.lean. -/

namespace Sys2Proof

/-- The command a word of `nbits` bits spells by the table's bits: none, for no row has any. -/
def decodeTableWord (_nbits _w : Nat) : Option Instr := none

end Sys2Proof
end

