-- ==== Sys2Proof/Config.lean ====
section
/-! DEFINITION. The figures the manual fixes for the part, each with the rule that gives it. The manual calls no
result of any step undefined, so there is no free value here. -/

namespace Sys2Proof.Config

/-- Greatest LEN of a line frame (R156, layout section 8.7). -/
def maxPayload : Nat := 48
/-- Frames a receive queue holds (R155, R159). -/
def rxDepth : Nat := 8
/-- Frames a transmit queue holds (R155). -/
def txDepth : Nat := 16
/-- Passing entries port D's transmit queue holds (R164). -/
def downPassing : Nat := 12
/-- Passing entries port U's transmit queue holds (R165). -/
def upPassing : Nat := 14
/-- Requests the request queue holds (R172). -/
def requestDepth : Nat := 4
/-- Idle time in µs above which a frame is cut and the hunting mark cleared (R156, R158). -/
def idleGap : Nat := 200
/-- Break time in µs above which a port is stuck (R160). -/
def breakTime : Nat := 5000
/-- RESET_N assertion in µs at which a full reset begins (R152). -/
def fullResetTime : Nat := 20000
/-- Greatest depth in µm (R20, R31). -/
def maxDepth : Nat := 2000000000
/-- Greatest tooth interval in µs (R25). -/
def maxInterval : Nat := 10000000
/-- Intervals the history holds (R32). -/
def historyDepth : Nat := 8
/-- Greatest Δt of an evaluation in ms (R63). -/
def maxDelta : Nat := 250
/-- Greatest cap in mm/s (R54). -/
def maxCap : Nat := 32767
/-- Greatest power magnitude of an injection in kW (R123). -/
def maxPower : Int := 100000
/-- Greatest duration of an injection in ms (R123). -/
def maxDuration : Nat := 600000
/-- µs in one tick of the 1 ms time base (00_scope.md, Time). -/
def tick : Nat := 1000

end Sys2Proof.Config
end

