-- ==== Sys2Proof/Machine/State.lean ====
section
/-! DEFINITION. The state of the TH-418 as plain data: every piece of state the manual names, under the block that
owns it, and the machine right after power-on reset. -/

namespace Sys2Proof.Machine

/-- One value per channel (00_scope.md, Channel numbering: channels 0 to 3). -/
structure Quad (α : Type) where
  v0 : α
  v1 : α
  v2 : α
  v3 : α
  deriving DecidableEq, Repr

/-- The value of one channel. -/
def Quad.get {α : Type} (q : Quad α) : Chan → α
  | .c0 => q.v0
  | .c1 => q.v1
  | .c2 => q.v2
  | .c3 => q.v3

/-- Replace the value of one channel. -/
def Quad.set {α : Type} (q : Quad α) (c : Chan) (x : α) : Quad α :=
  match c with
  | .c0 => { q with v0 := x }
  | .c1 => { q with v1 := x }
  | .c2 => { q with v2 := x }
  | .c3 => { q with v3 := x }

/-- The same value in every channel. -/
def Quad.fill {α : Type} (x : α) : Quad α := ⟨x, x, x, x⟩

/-- A moment: the time in µs and the place of the event among all events taken, so that of two events in the same
instant one is later (R84; log 5). -/
structure Moment where
  us : Nat
  serial : Nat
  deriving DecidableEq, Repr

/-! ## Line frames (R156, section 8.7) -/

/-- A complete line frame; its LEN is the length of its payload. -/
structure Frame where
  dest : Byte
  src : Byte
  kind : Byte
  tag : Byte
  payload : List Byte
  check : Byte
  deriving DecidableEq, Repr

/-- What an entry of a transmit queue is (R163 to R165): a drive entry is identified by its channel. The reply to
an accepted RESET is told from other replies, because the reset waits for it (R153). -/
inductive TxKind where
  | drive (c : Chan)
  | passing
  | reply
  | resetReply
  deriving DecidableEq, Repr

/-- One entry of a transmit queue. -/
structure TxEntry where
  kind : TxKind
  frame : Frame
  deriving DecidableEq, Repr

/-- One line port (R155). -/
structure Port where
  /-- LIVE or STUCK. -/
  live : Bool
  /-- The receive queue, oldest first. -/
  rx : List Frame
  /-- The transmit queue, oldest first. -/
  tx : List TxEntry
  /-- The bytes received so far of the frame in reception; empty when there is none. -/
  receiving : List Byte
  /-- The frame in transmission. -/
  transmitting : Option TxEntry
  /-- The hunting mark (R156). -/
  hunting : Bool
  /-- When a reset last left the port LIVE: a break is timed from then at the earliest (R155, R160). -/
  liveSince : Nat
  deriving DecidableEq, Repr

/-! ## Table store (R1 to R8) -/

/-- The notice order mode (R4). -/
inductive NoticeOrder where
  | channelOrder | severityOrder
  deriving DecidableEq, Repr

/-- The two guide lanes. -/
inductive Lane where
  | a | b
  deriving DecidableEq, Repr

/-- A lane's figures in the SHAFT record (R4), in mm. -/
structure LaneFigures where
  top : Nat
  bottom : Nat
  margin : Nat
  deriving DecidableEq, Repr

/-- The SHAFT record (R4). -/
structure Shaft where
  floor : Nat
  signalling : Byte
  laneA : LaneFigures
  laneB : LaneFigures
  order : NoticeOrder
  deriving DecidableEq, Repr

/-- A zone slot (R5). -/
structure Zone where
  top : Nat
  limitA : Nat
  limitB : Nat
  noDwell : Bool
  deriving DecidableEq, Repr

/-- A LANDMARKS entry (R7), depths in µm. -/
structure Landmark where
  present : Bool
  lane : Lane
  depth : Nat
  halfWidth : Nat
  deriving DecidableEq, Repr

/-- A HOISTS record (R8). -/
structure Hoist where
  addr : Byte
  pitch : Nat
  compliance : Nat
  driveLimit : Nat
  aR : Nat
  aS : Nat
  crawl : Nat
  doubtful : Nat
  nr : Nat
  window : Nat
  toothHold : Nat
  emission : Nat
  demandTimeout : Nat
  brakeConfirm : Nat
  prove : Nat
  standstill : Nat
  arrival : Nat
  fMin : Nat
  body : Nat
  snap : Nat
  doubt : Nat
  deriving DecidableEq, Repr

/-- One bank of the table store (R1). -/
structure Bank where
  shaft : Shaft
  zoneCount : Nat
  zones : Vector Zone 32
  landmarks : Vector Landmark 64
  hoists : Quad Hoist
  deriving DecidableEq, Repr

/-- The empty bank (R2). -/
def Bank.empty : Bank where
  shaft := ⟨0, 0x00#8, ⟨0, 0, 0⟩, ⟨0, 0, 0⟩, .channelOrder⟩
  zoneCount := 0
  zones := Vector.replicate 32 ⟨0, 0, 0, false⟩
  landmarks := Vector.replicate 64 ⟨false, .a, 0, 0⟩
  hoists := .fill ⟨0x00#8, 0, 0, 0, 0, 0, 0, 0, 0, 0, 0, 0, 0, 0, 0, 0, 0, 0, 0, 0, 0⟩

/-! ## Descriptor memory (R102) -/

/-- How the successor of a descriptor is found (R107); the link index is present with LINK alone. -/
inductive NextMode where
  | next
  | link (index : Fin 256)
  | stopHere
  deriving DecidableEq, Repr

/-- What a list does at a landmark match (R115 to R118). -/
inductive MatchAction where
  | note | stopSelf | stopPair | skip
  deriving DecidableEq, Repr

/-- One move descriptor (R102); the match action is present with a match landmark alone. -/
structure Descriptor where
  target : Nat
  cruise : Nat
  dwell : Nat
  next : NextMode
  watch : Option (Fin 64 × MatchAction)
  notify : Bool
  deriving DecidableEq, Repr

/-- A descriptor after power-on (R103); `stopHere` is END. -/
def Descriptor.initial : Descriptor := ⟨0, 0, 0, .stopHere, none, false⟩

/-! ## Depth reckoner (R20) -/

/-- Reckoning quality. -/
inductive Quality where
  | unreferenced | good | doubtful | lost
  deriving DecidableEq, Repr

/-- Direction of travel: DOWN is positive. -/
inductive Direction where
  | down | up
  deriving DecidableEq, Repr

/-- A channel's reckoning record (R20). -/
structure Reckoning where
  /-- µm. -/
  depth : Nat
  quality : Quality
  /-- `none` is the value NONE. -/
  lastDir : Option Direction
  /-- Intervals in µs, oldest first. -/
  history : List Nat
  /-- µs. -/
  lastTooth : Option Nat
  earlyCount : Nat
  goodCount : Nat
  /-- mm. -/
  lastError : Option Int
  lastNumber : Option (Fin 64)
  /-- Latest rope load, kN. -/
  load : Nat
  deriving DecidableEq, Repr

/-- The record after power-on (R21). -/
def Reckoning.initial : Reckoning := ⟨0, .unreferenced, none, [], none, 0, 0, none, none, 0⟩

/-! ## Speed gate (R47) -/

/-- A channel's gate state (R47). -/
structure Gate where
  /-- The output speed p, µm/s. -/
  out : Int
  /-- Time of the previous evaluation, µs. -/
  prevEval : Option Nat
  /-- mm/s. -/
  downCap : Nat
  /-- mm/s. -/
  upCap : Nat
  deriving DecidableEq, Repr

/-- The gate after power-on and full reset (R47). -/
def Gate.initial : Gate := ⟨0, none, 0, 0⟩

/-! ## Channel controllers (R76) -/

/-- Where a stop ends (R89). -/
inductive Destination where
  | held | suspended
  deriving DecidableEq, Repr

/-- The twelve channel states with their sub-states and phases (R78). -/
inductive ChanState where
  | unconfigured
  | parked
  | releasingProve
  | releasingOpen
  | held
  | trafficLive
  | trafficLapsed
  | list
  | suspended
  | injected
  | stopping (dest : Destination)
  | parkingRamp
  | parkingSet
  | fault
  | tripped
  deriving DecidableEq, Repr

/-- The list phase (R108). -/
inductive ListPhase where
  | approach | dwell
  deriving DecidableEq, Repr

/-- Drive state as reported (R83). -/
inductive DriveState where
  | ready | running | fault
  deriving DecidableEq, Repr

/-- Brake state as reported (R83). -/
inductive BrakeState where
  | released | set | moving
  deriving DecidableEq, Repr

/-- The feedback record once a FEEDBACK frame has been read: its five fields are written together (R83), so
"none yet" in all five is the record being absent. -/
structure Feedback where
  /-- mm/s. -/
  actual : Int
  /-- kN. -/
  load : Nat
  drive : DriveState
  brake : BrakeState
  time : Moment
  deriving DecidableEq, Repr

/-- The state an injection returns to (R125); the descriptor index and the dwell remaining are present where R125
says they are. -/
inductive Saved where
  | traffic
  | held
  | list (index : Fin 256) (dwellLeft : Option Nat)
  | suspended (index : Fin 256) (dwellLeft : Option Nat)
  deriving DecidableEq, Repr

/-- The stall watch while it runs (R45): its reference moment in µs and its length in ms. -/
structure StallWatch where
  ref : Nat
  hold : Nat
  deriving DecidableEq, Repr

/-- A channel controller's record (R76, R108, R124, R129, R131). A timer is `none` when stopped, and otherwise
the tick of the 1 ms time base at which it expires (log 4). -/
structure Controller where
  state : ChanState
  emission : Option Nat
  demand : Option Nat
  feedback : Option Nat
  dwell : Option Nat
  duration : Option Nat
  prove : Option Nat
  brake : Option Nat
  watch : Option StallWatch
  current : Option (Fin 256)
  listPhase : ListPhase
  evaluated : Bool
  carried : Option Nat
  slot : Option Saved
  /-- kW. -/
  power : Int
  limited : Bool
  record : Option Feedback
  zeroMoment : Moment
  deriving DecidableEq, Repr

/-- The controller's reset values (R77): `st` is the state the reset leaves, `m` the zero moment. -/
def Controller.initial (st : ChanState) (m : Moment) : Controller where
  state := st
  emission := none
  demand := none
  feedback := none
  dwell := none
  duration := none
  prove := none
  brake := none
  watch := none
  current := none
  listPhase := .approach
  evaluated := false
  carried := none
  slot := none
  power := 0
  limited := false
  record := none
  zeroMoment := m

/-! ## Notice unit (R182) -/

/-- Causes of LIST_FAULT (R109). -/
inductive ListCause where
  | invalid | outsideStops | noDwellZone
  deriving DecidableEq, Repr

/-- A detail record: four fields, each present or absent (R182). -/
structure Detail where
  /-- Landmark error in mm, landmark number as carried in the frame. -/
  landmark : Option (Int × Nat)
  listFault : Option (Fin 256 × ListCause)
  earlyTeeth : Option Nat
  port : Option PortId
  deriving DecidableEq, Repr

/-- A detail record with every field absent. -/
def Detail.absent : Detail := ⟨none, none, none, none⟩

/-- A notice source: the pending set as the bits of section 8.7 (bit n set when kind n is pending), and the
detail record. A channel has 18 kinds, the supervisor 12 (R182). -/
structure Source (kinds : Nat) where
  pending : BitVec kinds
  detail : Detail
  deriving DecidableEq, Repr

/-- A source with nothing pending (R185). -/
def Source.empty {kinds : Nat} : Source kinds := ⟨0, .absent⟩

/-! ## The whole part -/

/-- Everything the part keeps for one hoist. -/
structure Channel where
  reckon : Reckoning
  gate : Gate
  ctl : Controller
  notes : Source 18
  deriving DecidableEq, Repr

/-- The scopes of RESET (R153). -/
inductive ResetScope where
  | ring | full
  deriving DecidableEq, Repr

/-- The scopes of ACTIVATE (R14). -/
inductive Scope where
  | all | zones
  deriving DecidableEq, Repr

/-- An activation in progress (R14, R177): what its completion and its reply need. -/
structure Activation where
  scope : Scope
  expected : BitVec 16
  request : Frame
  deriving DecidableEq, Repr

/-- The reset line (R151, R152). -/
inductive ResetLine where
  /-- RESET_N is negated. -/
  | negated
  /-- Asserted since the time in µs, no full reset yet. -/
  | asserted (since : Nat)
  /-- Asserted, and the full reset has begun. -/
  | fullReset
  deriving DecidableEq, Repr

/-- The state of the TH-418. -/
structure State where
  /-- Commands waiting, first in first out (the model's own). -/
  pending : List Instr
  /-- µs of the reference clock (log 1). -/
  now : Nat
  /-- Events taken so far (log 5). -/
  serial : Nat
  /-- Straps as last sampled. -/
  straps : BitVec 4
  /-- TRIP_N asserted. -/
  tripLine : Bool
  resetLine : ResetLine
  active : Bank
  shadow : Bank
  /-- The ACTIVE bank has been filled by a successful ACTIVATE ALL since power-on (R3). -/
  activeFilled : Bool
  shadowDiffers : Bool
  descs : Vector Descriptor 256
  chans : Quad Channel
  portU : Port
  portD : Port
  /-- Port U's reply reservation, 0 or 1 (R155). -/
  reserved : Bool
  /-- The request queue, oldest first (R172). -/
  requests : List Frame
  activation : Option Activation
  freeze : Bool
  resetPending : Option ResetScope
  supNotes : Source 12
  deriving DecidableEq, Repr

/-- Why a run would stop with a fault: never. The manual gives every step of the table an outcome, so no command
of this model ends in a fault, and the type has no constructor. -/
inductive Fault where
  deriving DecidableEq, Repr

/-- Why a command would have no meaning. -/
inductive Refusal where
  /-- Raised by `exec` alone, in the arm of a command that has no meaning yet (safe); no arm raises it. -/
  | notModelled (mnemonic : String)
  deriving DecidableEq, Repr

/-- A port as every reset leaves it: LIVE and empty (R155). -/
def Port.initial (now : Nat) : Port := ⟨true, [], [], [], none, false, now⟩

/-- A channel after power-on reset (R21, R47, R77, R185). -/
def Channel.powerOn (m : Moment) : Channel :=
  ⟨.initial, .initial, .initial .unconfigured m, .empty⟩

/-- Bit 11 of the supervisor's pending set, RESET_DONE (section 8.7): what the supervisor source holds when a
power-on or full reset is complete (R185). -/
def resetDoneOnly : Source 12 := ⟨0x800#12, .absent⟩

/-- The machine right after power-on reset (R154), TRIP_N and RESET_N negated, straps 0 (log 7). -/
def State.reset : State where
  pending := []
  now := 0
  serial := 0
  straps := 0#4
  tripLine := false
  resetLine := .negated
  active := .empty
  shadow := .empty
  activeFilled := false
  shadowDiffers := false
  descs := Vector.replicate 256 .initial
  chans := .fill (.powerOn ⟨0, 0⟩)
  portU := .initial 0
  portD := .initial 0
  reserved := false
  requests := []
  activation := none
  freeze := false
  resetPending := none
  supNotes := resetDoneOnly

end Sys2Proof.Machine
end

