-- ==== Sys2Proof/Machine/Ops.lean ====
section
/-! DEFINITION. The shared operations over the state: the clock, a channel's parts, bytes and check sequences,
raising notices, and handing frames to the two transmit queues. -/

namespace Sys2Proof.Machine

/-! ## Time (00_scope.md, Time; log 1, 4, 5) -/

/-- An event comes `dt` µs after the one before it. -/
def State.advance (s : State) (dt : Nat) : State := { s with now := s.now + dt, serial := s.serial + 1 }

/-- The 1 ms time base: whole milliseconds counted. -/
def State.ms (s : State) : Nat := s.now / Config.tick

/-- The moment of the event being taken. -/
def State.moment (s : State) : Moment := ⟨s.now, s.serial⟩

/-- `a` is later than `b`: by time, and in one instant by the order in which the events are taken (R84). -/
def Moment.later (a b : Moment) : Bool := decide (b.us < a.us) || (a.us == b.us && decide (b.serial < a.serial))

/-- A timer that runs and has reached its expiry. -/
def State.due (s : State) (timer : Option Nat) : Bool :=
  match timer with
  | some e => decide (e ≤ s.ms)
  | none => false

/-- From the beginning of a full reset to the release of RESET_N the channels, the reckoner and the gate take no
event (R22, R77, R152). -/
def State.awake (s : State) : Bool := s.resetLine != .fullReset

/-- RESET_N asserted: both ports are held and the engine takes nothing (R151). -/
def State.heldInReset (s : State) : Bool := s.resetLine != .negated

/-! ## A channel's parts -/

/-- Everything kept for one hoist. -/
def State.chan (s : State) (c : Chan) : Channel := s.chans.get c

/-- Change one channel. -/
def State.modChan (s : State) (c : Chan) (f : Channel → Channel) : State :=
  { s with chans := s.chans.set c (f (s.chan c)) }

/-- Change one channel's reckoning record. -/
def State.modReckon (s : State) (c : Chan) (f : Reckoning → Reckoning) : State :=
  s.modChan c fun ch => { ch with reckon := f ch.reckon }

/-- Change one channel's gate state. -/
def State.modGate (s : State) (c : Chan) (f : Gate → Gate) : State :=
  s.modChan c fun ch => { ch with gate := f ch.gate }

/-- Change one channel controller's record. -/
def State.modCtl (s : State) (c : Chan) (f : Controller → Controller) : State :=
  s.modChan c fun ch => { ch with ctl := f ch.ctl }

/-- The channel controller of one channel. -/
def State.ctl (s : State) (c : Chan) : Controller := (s.chan c).ctl

/-- The reckoning record of one channel. -/
def State.reckon (s : State) (c : Chan) : Reckoning := (s.chan c).reckon

/-- The gate state of one channel. -/
def State.gate (s : State) (c : Chan) : Gate := (s.chan c).gate

/-- The channel's ACTIVE HOISTS record (R1, R8). -/
def State.hoist (s : State) (c : Chan) : Hoist := s.active.hoists.get c

/-- The four channels in order. -/
def allChans : List Chan := [.c0, .c1, .c2, .c3]

/-- The lane of a channel (00_scope.md, Channel numbering). -/
def laneOf : Chan → Lane
  | .c0 | .c1 => .a
  | .c2 | .c3 => .b

/-- The partner of a channel. -/
def partnerOf : Chan → Chan
  | .c0 => .c1
  | .c1 => .c0
  | .c2 => .c3
  | .c3 => .c2

/-- The upper channel of a lane. -/
def isUpper : Chan → Bool
  | .c0 | .c2 => true
  | .c1 | .c3 => false

/-- The number of a channel. -/
def chanNumber : Chan → Nat
  | .c0 => 0
  | .c1 => 1
  | .c2 => 2
  | .c3 => 3

/-- The channel a number names. -/
def chanOf : Nat → Option Chan
  | 0 => some .c0
  | 1 => some .c1
  | 2 => some .c2
  | 3 => some .c3
  | _ => none

/-- The supervisor address: 0xE0 plus the strap value (00_scope.md, Terms). -/
def State.supervisor (s : State) : Byte := 0xE0#8 + s.straps.setWidth 8

/-- A channel has an ACTIVE hoist record (R3). -/
def State.configured (s : State) (_c : Chan) : Bool := s.activeFilled

/-- The configured channel whose ACTIVE drive station address is `a` (R3, section 8.4). -/
def State.driveAt (s : State) (a : Byte) : Option Chan :=
  allChans.find? fun c => s.configured c && (s.hoist c).addr == a

/-! ## Numbers -/

/-- One bit of the square root, from bit `k` down. -/
def isqrtFrom : Nat → Nat → Nat → Nat
  | 0, n, r => if (r + 1) * (r + 1) ≤ n then r + 1 else r
  | k + 1, n, r =>
    if (r + 2 ^ (k + 1)) * (r + 2 ^ (k + 1)) ≤ n then isqrtFrom k n (r + 2 ^ (k + 1)) else isqrtFrom k n r

/-- The floor integer square root (00_scope.md, Terms), written so that the kernel evaluates it. -/
def isqrt (n : Nat) : Nat := isqrtFrom (n.log2 / 2) n 0

/-- Hold `x` within `lo` to `hi` (00_scope.md, Arithmetic: "clamped"). -/
def clampInt (lo hi x : Int) : Int := max lo (min hi x)

/-- Bytes of a number, most significant first (00_scope.md, Line fields). -/
def natBytes : Nat → Nat → List Byte
  | 0, _ => []
  | k + 1, n => BitVec.ofNat 8 (n / 256 ^ k) :: natBytes k n

/-- Bytes of a two's complement number, most significant first. -/
def intBytes (k : Nat) (i : Int) : List Byte := natBytes k (i % (256 ^ k : Nat)).toNat

/-- The number of a byte sequence, most significant first. -/
def bytesNat (l : List Byte) : Nat := l.foldl (fun a b => a * 256 + b.toNat) 0

/-- The two's complement number of a byte sequence. -/
def bytesInt (l : List Byte) : Int :=
  if bytesNat l < 256 ^ l.length / 2 then bytesNat l else (bytesNat l : Int) - (256 ^ l.length : Nat)

/-- `k` bytes at offset `off`. -/
def bytesAt (l : List Byte) (off k : Nat) : List Byte := (l.drop off).take k

/-- The unsigned field of `k` bytes at offset `off`. -/
def natAt (l : List Byte) (off k : Nat) : Nat := bytesNat (bytesAt l off k)

/-- The signed field of `k` bytes at offset `off`. -/
def intAt (l : List Byte) (off k : Nat) : Int := bytesInt (bytesAt l off k)

/-- The byte at offset `off` (0 past the end, which no accepted LEN reaches). -/
def byteAt (l : List Byte) (off : Nat) : Byte := l.getD off 0x00#8

/-! ## Check sequences (R15, R157) -/

/-- `k` shifts of a check register, most significant bit first, with the generator's low bits `g`. -/
def crcShift {w : Nat} (g : BitVec w) : Nat → BitVec w → BitVec w
  | 0, r => r
  | k + 1, r => crcShift g k (if r.msb then (r <<< 1) ^^^ g else r <<< 1)

/-- CRC-8 with generator x^8 + x^6 + x^3 + x^2 + 1 and initial value 0 (R157). -/
def crc8 (l : List Byte) : Byte := l.foldl (fun r b => crcShift 0x4D#8 8 (r ^^^ b)) 0x00#8

/-- CRC-16 with generator x^16 + x^12 + x^5 + 1 and initial value 0xFFFF (R15). -/
def crc16 (l : List Byte) : BitVec 16 :=
  l.foldl (fun r b => crcShift 0x1021#16 8 (r ^^^ (b ++ 0x00#8))) 0xFFFF#16

/-- LEN of a frame. -/
def Frame.len (f : Frame) : Nat := f.payload.length

/-- The bytes of a frame from DEST to the last payload byte (R156). -/
def Frame.body (f : Frame) : List Byte :=
  [f.dest, f.src, f.kind, f.tag, BitVec.ofNat 8 f.len] ++ f.payload

/-- Compute a frame's CHECK afresh (R157). -/
def Frame.sealed (f : Frame) : Frame := { f with check := crc8 f.body }

/-- KIND codes (section 8.7). -/
def kindDrive : Byte := 0x31#8
def kindFeedback : Byte := 0x32#8
def kindLandmark : Byte := 0x33#8
def kindRequest : Byte := 0x3A#8
def kindReply : Byte := 0x3B#8

/-! ## Notices (R182) -/

/-- The kinds a channel raises; the constructor's place is its bit (section 8.7). -/
inductive ChanKind where
  | depthLost | stall | driveFault | brakeTimeout
  | toothEarly | landmarkError | listFault | demandLost
  | slackRope | feedbackLost | brakeByTraffic | responseLimited
  | landmarkMatch | moveDone | listEnd | responseDone
  | parked | released
  deriving DecidableEq, Repr

/-- The kinds the supervisor raises; the constructor's place is its bit (section 8.7). -/
inductive SupKind where
  | tripAsserted | lineStuck | lineCheck | frameCut
  | rxOverrun | upOverrun | downOverrun | badFeedback
  | landmarkUnknown | tripNegated | lineFreed | resetDone
  deriving DecidableEq, Repr

/-- Bit number of a channel kind (section 8.7). -/
def ChanKind.bit : ChanKind → Nat
  | .depthLost => 0 | .stall => 1 | .driveFault => 2 | .brakeTimeout => 3
  | .toothEarly => 4 | .landmarkError => 5 | .listFault => 6 | .demandLost => 7
  | .slackRope => 8 | .feedbackLost => 9 | .brakeByTraffic => 10 | .responseLimited => 11
  | .landmarkMatch => 12 | .moveDone => 13 | .listEnd => 14 | .responseDone => 15
  | .parked => 16 | .released => 17

/-- Bit number of a supervisor kind (section 8.7). -/
def SupKind.bit : SupKind → Nat
  | .tripAsserted => 0 | .lineStuck => 1 | .lineCheck => 2 | .frameCut => 3
  | .rxOverrun => 4 | .upOverrun => 5 | .downOverrun => 6 | .badFeedback => 7
  | .landmarkUnknown => 8 | .tripNegated => 9 | .lineFreed => 10 | .resetDone => 11

/-- Add a kind to a pending set, which holds it once (R182). -/
def Source.add {k : Nat} (n : Source k) (bit : Nat) : Source k :=
  { n with pending := n.pending ||| BitVec.twoPow k bit }

/-- Whether a kind is pending. -/
def Source.has {k : Nat} (n : Source k) (bit : Nat) : Bool := n.pending.getLsbD bit

/-- Raise a notice on a channel. -/
def State.raise (s : State) (c : Chan) (k : ChanKind) : State :=
  s.modChan c fun ch => { ch with notes := ch.notes.add k.bit }

/-- Raise a notice on a channel with its detail (R182): written whether or not the kind is already pending. -/
def State.raiseDetail (s : State) (c : Chan) (k : ChanKind) (f : Detail → Detail) : State :=
  s.modChan c fun ch => { ch with notes := { ch.notes.add k.bit with detail := f ch.notes.detail } }

/-- Raise a notice on the supervisor. -/
def State.raiseSup (s : State) (k : SupKind) : State := { s with supNotes := s.supNotes.add k.bit }

/-- Raise a notice on the supervisor with the port in the detail record (R182). -/
def State.raisePort (s : State) (k : SupKind) (p : PortId) : State :=
  { s with supNotes := { s.supNotes.add k.bit with detail := { s.supNotes.detail with port := some p } } }

/-! ## Ports and transmit queues (R161 to R165) -/

/-- One port. -/
def State.port (s : State) : PortId → Port
  | .u => s.portU
  | .d => s.portD

/-- Change one port. -/
def State.modPort (s : State) (p : PortId) (f : Port → Port) : State :=
  match p with
  | .u => { s with portU := f s.portU }
  | .d => { s with portD := f s.portD }

/-- A frame handed to the port joins its queue: the port is LIVE (R161) and not held in reset (R71, R151). -/
def State.portOpen (s : State) (p : PortId) : Bool := (s.port p).live && !s.heldInReset

/-- A passing entry (R164, R165). -/
def TxEntry.isPassing (e : TxEntry) : Bool := e.kind == .passing

/-- The drive entry of a channel (R163). -/
def TxEntry.isDrive (c : Chan) (e : TxEntry) : Bool := e.kind == .drive c

/-- How many passing entries a transmit queue holds. -/
def passingCount (q : List TxEntry) : Nat := q.countP TxEntry.isPassing

/-- Slots of port U's transmit queue that are occupied: the queued entries and the reservation (R165). -/
def State.upSlots (s : State) : Nat := s.portU.tx.length + s.reserved.toNat

/-- Append an entry as the newest of a transmit queue. -/
def State.append (s : State) (p : PortId) (e : TxEntry) : State := s.modPort p fun q => { q with tx := q.tx ++ [e] }

/-- Hand a passing frame to port D (R164); a STUCK port discards it without an overrun notice (R161). -/
def State.passDown (s : State) (f : Frame) : State :=
  if s.portOpen .d then
    if passingCount s.portD.tx < Config.downPassing then s.append .d ⟨.passing, f⟩ else s.raisePort .downOverrun .d
  else s

/-- Hand a passing frame to port U (R165); a STUCK port discards it without an overrun notice (R161). -/
def State.passUp (s : State) (f : Frame) : State :=
  if s.portOpen .u then
    if passingCount s.portU.tx < Config.upPassing && decide (s.upSlots < Config.txDepth) then
      s.append .u ⟨.passing, f⟩
    else s.raisePort .upOverrun .u
  else s

/-- Put a channel's drive frame into a transmit queue: in the place of its queued entry, or as the newest (R163). -/
def placeDrive (q : List TxEntry) (c : Chan) (f : Frame) : List TxEntry :=
  if q.any (TxEntry.isDrive c) then q.map fun e => if e.isDrive c then ⟨.drive c, f⟩ else e
  else q ++ [⟨.drive c, f⟩]

/-- The gate hands a DRIVE frame for a channel to port D (R71, R163). -/
def State.handDrive (s : State) (c : Chan) (f : Frame) : State :=
  if s.portOpen .d then s.modPort .d fun q => { q with tx := placeDrive q.tx c f } else s

/-- Append a reply to port U's transmit queue; a STUCK port discards it on arrival (R161). -/
def State.sendReply (s : State) (kind : TxKind) (f : Frame) : State :=
  if s.portOpen .u then s.append .u ⟨kind, f⟩ else s

end Sys2Proof.Machine
end

