-- ==== Sys2Proof/Machine/Flags.lean ====
section
/-! DEFINITION. Codes and flag bytes: quality, the channel state byte, brake commands, gate marks, origins, result
codes, STATUS flags, notice classes and the attention byte (section 8.7; R67, R69, R76, R180, R182, R184). -/

namespace Sys2Proof.Machine

/-- Quality codes (section 8.7). -/
def Quality.code : Quality → Nat
  | .unreferenced => 0
  | .good => 1
  | .doubtful => 2
  | .lost => 3

/-- The channel state byte (R76, section 8.7). -/
def ChanState.byte : ChanState → Byte
  | .unconfigured => 0x00#8
  | .parked => 0x01#8
  | .releasingProve => 0x02#8
  | .releasingOpen => 0x03#8
  | .held => 0x04#8
  | .trafficLive => 0x05#8
  | .trafficLapsed => 0x06#8
  | .list => 0x07#8
  | .suspended => 0x08#8
  | .injected => 0x09#8
  | .stopping .held => 0x0A#8
  | .stopping .suspended => 0x0B#8
  | .parkingRamp => 0x0C#8
  | .parkingSet => 0x0D#8
  | .fault => 0x0E#8
  | .tripped => 0x0F#8

/-- The forced states: UNCONFIGURED, FAULT, TRIPPED and PARKED (R61, R65). -/
def ChanState.forced : ChanState → Bool
  | .unconfigured | .fault | .tripped | .parked => true
  | _ => false

/-- The states in which the stall watch may run: TRAFFIC, LIST, INJECTED and STOPPING (R45). -/
def ChanState.watched : ChanState → Bool
  | .trafficLive | .trafficLapsed | .list | .injected | .stopping _ => true
  | _ => false

/-- TRAFFIC in either sub-state. -/
def ChanState.isTraffic : ChanState → Bool
  | .trafficLive | .trafficLapsed => true
  | _ => false

/-- Brake commands (section 8.7). -/
inductive BrakeCommand where
  | run | set | prove
  deriving DecidableEq, Repr

/-- Brake command codes (section 8.7). -/
def BrakeCommand.code : BrakeCommand → Byte
  | .run => 0x00#8
  | .set => 0x01#8
  | .prove => 0x02#8

/-- The brake command a channel state gives (R69). -/
def ChanState.brakeCommand : ChanState → BrakeCommand
  | .trafficLive | .trafficLapsed | .list | .injected | .held | .suspended | .stopping _ => .run
  | .parkingRamp => .run
  | .parkingSet => .set
  | .releasingProve => .prove
  | .releasingOpen => .run
  | .parked | .fault | .tripped | .unconfigured => .set

/-- Gate marks the gate writes (R67); NONE is never written. -/
inductive GateMark where
  | passed | ramped | clamped | forced
  deriving DecidableEq, Repr

/-- Gate mark codes (section 8.7). -/
def GateMark.code : GateMark → Byte
  | .passed => 0x01#8
  | .ramped => 0x02#8
  | .clamped => 0x03#8
  | .forced => 0x04#8

/-- Origin codes (section 8.7, R68). -/
def originDispatch : Byte := 0x00#8
def originSupervisor : Byte := 0x01#8

/-- Result codes of replies (section 8.7, R175). -/
inductive Result where
  | ok | badRequest | badChannel | badIndex | badValue | state | frozen | moving | inUse | checkMismatch
  | inconsistent | tripActive | notGranted | queueFull
  deriving DecidableEq, Repr

/-- Result code bytes (section 8.7). -/
def Result.code : Result → Byte
  | .ok => 0x00#8
  | .badRequest => 0x01#8
  | .badChannel => 0x02#8
  | .badIndex => 0x03#8
  | .badValue => 0x04#8
  | .state => 0x05#8
  | .frozen => 0x06#8
  | .moving => 0x07#8
  | .inUse => 0x08#8
  | .checkMismatch => 0x09#8
  | .inconsistent => 0x0A#8
  | .tripActive => 0x0B#8
  | .notGranted => 0x0C#8
  | .queueFull => 0x0D#8

/-- Codes of LIST_FAULT causes (section 8.7). -/
def ListCause.code : ListCause → Nat
  | .invalid => 1
  | .outsideStops => 2
  | .noDwellZone => 3

/-- A byte with the given bits, least significant first. -/
def flagsByte (bits : List Bool) : Byte := BitVec.ofNat 8 (bits.foldr (fun b n => b.toNat + 2 * n) 0)

/-! ## Notice classes (R182): 3 ALARM, 2 WARNING, 1 INFO, 0 none, which are the attention codes of section 8.7 -/

/-- Class of a channel kind. -/
def ChanKind.cls : ChanKind → Nat
  | .depthLost | .stall | .driveFault | .brakeTimeout => 3
  | .toothEarly | .landmarkError | .listFault | .demandLost | .slackRope | .feedbackLost | .brakeByTraffic
  | .responseLimited => 2
  | .landmarkMatch | .moveDone | .listEnd | .responseDone | .parked | .released => 1

/-- Class of a supervisor kind. -/
def SupKind.cls : SupKind → Nat
  | .tripAsserted | .lineStuck => 3
  | .lineCheck | .frameCut | .rxOverrun | .upOverrun | .downOverrun | .badFeedback | .landmarkUnknown => 2
  | .tripNegated | .lineFreed | .resetDone => 1

/-- All channel kinds. -/
def chanKinds : List ChanKind :=
  [.depthLost, .stall, .driveFault, .brakeTimeout, .toothEarly, .landmarkError, .listFault, .demandLost,
   .slackRope, .feedbackLost, .brakeByTraffic, .responseLimited, .landmarkMatch, .moveDone, .listEnd,
   .responseDone, .parked, .released]

/-- All supervisor kinds. -/
def supKinds : List SupKind :=
  [.tripAsserted, .lineStuck, .lineCheck, .frameCut, .rxOverrun, .upOverrun, .downOverrun, .badFeedback,
   .landmarkUnknown, .tripNegated, .lineFreed, .resetDone]

/-- The highest class pending on a channel's source, 0 when its set is empty. -/
def chanClass (n : Source 18) : Nat :=
  chanKinds.foldl (fun m k => if n.has k.bit then max m k.cls else m) 0

/-- The highest class pending on the supervisor, 0 when its set is empty. -/
def supClass (n : Source 12) : Nat :=
  supKinds.foldl (fun m k => if n.has k.bit then max m k.cls else m) 0

/-- The attention byte: the highest class pending in any of the five sources (R184). -/
def State.attention (s : State) : Nat :=
  allChans.foldl (fun m c => max m (chanClass (s.chan c).notes)) (supClass s.supNotes)

/-- Supervisor flags of STATUS (section 8.7). -/
def State.statusFlags (s : State) : Byte :=
  flagsByte [s.freeze, s.tripLine, false, s.shadowDiffers, !s.portU.live, !s.portD.live]

end Sys2Proof.Machine
end

