-- ==== Sys2Proof/Machine/Operands.lean ====
section
/-! DEFINITION. The operands of the part: table records, descriptors and drive-side payloads in the byte layouts of
section 8.7, their ranges (R4, R5, R7, R8, R102), the fields of requests, and the checks common to all requests
(R171, R176). -/

namespace Sys2Proof.Machine

/-! ## Ranges -/

/-- `lo ≤ x ≤ hi`. -/
def within (lo hi x : Nat) : Bool := decide (lo ≤ x) && decide (x ≤ hi)

/-- A lane's stops and margin lie in range (R4). -/
def LaneFigures.inRange (l : LaneFigures) : Bool :=
  within 0 2000000 l.top && within 0 2000000 l.bottom && within 0 100000 l.margin

/-- Every field of the SHAFT record lies in range (R4). -/
def Shaft.inRange (r : Shaft) : Bool :=
  within 1 2000000 r.floor && within 0x01 0xFE r.signalling.toNat && r.laneA.inRange && r.laneB.inRange

/-- Every field of a zone slot lies in range (R5). -/
def Zone.inRange (z : Zone) : Bool :=
  within 0 2000000 z.top && within 0 32767 z.limitA && within 0 32767 z.limitB

/-- Every field of a landmark entry lies in range (R7). -/
def Landmark.inRange (l : Landmark) : Bool := within 0 2000000000 l.depth && within 0 50000 l.halfWidth

/-- Every field of a HOISTS record lies in range, the doubt limit above the snap limit (R8). -/
def Hoist.inRange (h : Hoist) : Bool :=
  within 0x01 0xFF h.addr.toNat && within 1000 200000 h.pitch && within 0 2000 h.compliance
    && within 1 32767 h.driveLimit && within 1 2000 h.aR && within 1 5000 h.aS && within 1 1000 h.crawl
    && within 1 32767 h.doubtful && within 1 8 h.nr && within 1 63 h.window && within 10 10000 h.toothHold
    && within 5 100 h.emission && within 10 2000 h.demandTimeout && within 100 5000 h.brakeConfirm
    && within 0 5000 h.prove && within 0 200 h.standstill && within 1 1000 h.arrival
    && within 1 65535 h.fMin && within 1 50000 h.body && within 1 10000 h.snap
    && decide (h.snap < h.doubt) && within 0 100000 h.doubt

/-- The numeric fields of a descriptor lie in range (R102); the others cannot be out of it. -/
def Descriptor.inRange (d : Descriptor) : Bool :=
  within 0 2000000 d.target && within 0 32767 d.cruise && within 0 65535 d.dwell

/-! ## Records in bytes (section 8.7) -/

/-- A yes-or-no field: 1 or 0, anything else is out of range (R171). -/
def decodeYesNo (b : Byte) : Option Bool :=
  if b = 0x00#8 then some false else if b = 0x01#8 then some true else none

/-- A lane code. -/
def decodeLane (b : Byte) : Option Lane :=
  if b = 0x00#8 then some .a else if b = 0x01#8 then some .b else none

/-- A notice order code. -/
def decodeOrder (b : Byte) : Option NoticeOrder :=
  if b = 0x00#8 then some .channelOrder else if b = 0x01#8 then some .severityOrder else none

/-- The byte of a yes-or-no field. -/
def yesNoByte (b : Bool) : Byte := BitVec.ofNat 8 b.toNat

/-- The byte of a lane. -/
def Lane.byte : Lane → Byte
  | .a => 0x00#8
  | .b => 0x01#8

/-- The byte of a notice order mode. -/
def NoticeOrder.byte : NoticeOrder → Byte
  | .channelOrder => 0x00#8
  | .severityOrder => 0x01#8

/-- The SHAFT record, 30 bytes. -/
def Shaft.encode (r : Shaft) : List Byte :=
  natBytes 4 r.floor ++ [r.signalling]
    ++ natBytes 4 r.laneA.top ++ natBytes 4 r.laneA.bottom ++ natBytes 4 r.laneA.margin
    ++ natBytes 4 r.laneB.top ++ natBytes 4 r.laneB.bottom ++ natBytes 4 r.laneB.margin
    ++ [r.order.byte]

/-- Read a SHAFT record: `none` when a field is out of range (R4, R171). -/
def decodeShaft (l : List Byte) : Option Shaft := do
  let order ← decodeOrder (byteAt l 29)
  let r : Shaft := ⟨natAt l 0 4, byteAt l 4, ⟨natAt l 5 4, natAt l 9 4, natAt l 13 4⟩,
    ⟨natAt l 17 4, natAt l 21 4, natAt l 25 4⟩, order⟩
  if r.inRange then some r else none

/-- A zone entry, 9 bytes. -/
def Zone.encode (z : Zone) : List Byte :=
  natBytes 4 z.top ++ natBytes 2 z.limitA ++ natBytes 2 z.limitB ++ [yesNoByte z.noDwell]

/-- Read a zone entry (R5, R171). -/
def decodeZone (l : List Byte) : Option Zone := do
  let mark ← decodeYesNo (byteAt l 8)
  let z : Zone := ⟨natAt l 0 4, natAt l 4 2, natAt l 6 2, mark⟩
  if z.inRange then some z else none

/-- A landmark entry, 8 bytes. -/
def Landmark.encode (m : Landmark) : List Byte :=
  [yesNoByte m.present, m.lane.byte] ++ natBytes 4 m.depth ++ natBytes 2 m.halfWidth

/-- Read a landmark entry (R7, R171). -/
def decodeLandmark (l : List Byte) : Option Landmark := do
  let present ← decodeYesNo (byteAt l 0)
  let lane ← decodeLane (byteAt l 1)
  let m : Landmark := ⟨present, lane, natAt l 2 4, natAt l 6 2⟩
  if m.inRange then some m else none

/-- A hoist record, 41 bytes. -/
def Hoist.encode (h : Hoist) : List Byte :=
  [h.addr] ++ natBytes 4 h.pitch ++ natBytes 2 h.compliance ++ natBytes 2 h.driveLimit
    ++ natBytes 2 h.aR ++ natBytes 2 h.aS ++ natBytes 2 h.crawl ++ natBytes 2 h.doubtful
    ++ natBytes 1 h.nr ++ natBytes 1 h.window ++ natBytes 2 h.toothHold ++ natBytes 1 h.emission
    ++ natBytes 2 h.demandTimeout ++ natBytes 2 h.brakeConfirm ++ natBytes 2 h.prove
    ++ natBytes 1 h.standstill ++ natBytes 2 h.arrival ++ natBytes 2 h.fMin ++ natBytes 2 h.body
    ++ natBytes 2 h.snap ++ natBytes 4 h.doubt

/-- Read a hoist record (R8). -/
def decodeHoist (l : List Byte) : Option Hoist :=
  let h : Hoist :=
    { addr := byteAt l 0, pitch := natAt l 1 4, compliance := natAt l 5 2, driveLimit := natAt l 7 2,
      aR := natAt l 9 2, aS := natAt l 11 2, crawl := natAt l 13 2, doubtful := natAt l 15 2,
      nr := natAt l 17 1, window := natAt l 18 1, toothHold := natAt l 19 2, emission := natAt l 21 1,
      demandTimeout := natAt l 22 2, brakeConfirm := natAt l 24 2, prove := natAt l 26 2,
      standstill := natAt l 28 1, arrival := natAt l 29 2, fMin := natAt l 31 2, body := natAt l 33 2,
      snap := natAt l 35 2, doubt := natAt l 37 4 }
  if h.inRange then some h else none

/-- A match action's code. -/
def MatchAction.byte : MatchAction → Byte
  | .note => 0x00#8
  | .stopSelf => 0x01#8
  | .stopPair => 0x02#8
  | .skip => 0x03#8

/-- A match action code (R104 step 3). -/
def decodeAction (b : Byte) : Option MatchAction :=
  if b = 0x00#8 then some .note else if b = 0x01#8 then some .stopSelf
  else if b = 0x02#8 then some .stopPair else if b = 0x03#8 then some .skip else none

/-- The next mode from its code, the link-present flag and the link index: a link index is present with LINK and
absent otherwise (R104 step 3). -/
def decodeNext (code : Byte) (linkPresent : Bool) (link : Byte) : Option NextMode :=
  if code = 0x00#8 then if linkPresent then none else some .next
  else if code = 0x01#8 then if linkPresent then some (.link link.toFin) else none
  else if code = 0x02#8 then if linkPresent then none else some .stopHere
  else none

/-- A landmark number 0 to 63. -/
def landmarkOf (n : Nat) : Option (Fin 64) := if h : n < 64 then some ⟨n, h⟩ else none

/-- The match fields: a match action is present with a match landmark and absent otherwise (R104 step 3). -/
def decodeMatch (landmarkPresent actionPresent : Bool) (landmark action : Byte) :
    Option (Option (Fin 64 × MatchAction)) :=
  match landmarkPresent, actionPresent with
  | false, false => some none
  | true, true =>
    match landmarkOf landmark.toNat, decodeAction action with
    | some n, some a => some (some (n, a))
    | _, _ => none
  | _, _ => none

/-- Read a descriptor (R102, R104 step 3): the flags byte names four bits, any other set bit is out of range, and
bytes of an absent field are not examined (R171). -/
def decodeDescriptor (l : List Byte) : Option Descriptor := do
  let flags := byteAt l 12
  let mode ← decodeNext (byteAt l 8) (flags.getLsbD 0) (byteAt l 9)
  let watch ← decodeMatch (flags.getLsbD 1) (flags.getLsbD 2) (byteAt l 10) (byteAt l 11)
  let d : Descriptor := ⟨natAt l 0 4, natAt l 4 2, natAt l 6 2, mode, watch, flags.getLsbD 3⟩
  if d.inRange && decide (flags.toNat < 16) then some d else none

/-- The next mode's code byte, link-present flag and link index byte. -/
def NextMode.fields : NextMode → Byte × Bool × Byte
  | .next => (0x00#8, false, 0x00#8)
  | .link i => (0x01#8, true, BitVec.ofFin i)
  | .stopHere => (0x02#8, false, 0x00#8)

/-- The match landmark byte, presence flag and action byte. -/
def watchFields : Option (Fin 64 × MatchAction) → Byte × Bool × Byte
  | none => (0x00#8, false, 0x00#8)
  | some (n, a) => (BitVec.ofNat 8 n, true, a.byte)

/-- A descriptor, 13 bytes; absent fields are sent as 0 (R171). -/
def Descriptor.encode (d : Descriptor) : List Byte :=
  natBytes 4 d.target ++ natBytes 2 d.cruise ++ natBytes 2 d.dwell
    ++ [d.next.fields.1, d.next.fields.2.2, (watchFields d.watch).1, (watchFields d.watch).2.2,
        flagsByte [d.next.fields.2.1, (watchFields d.watch).2.1, (watchFields d.watch).2.1, d.notify]]

/-! ## Runs of records -/

/-- Cut a byte sequence into `n` records of `size` bytes. -/
def chunks (size : Nat) : Nat → List Byte → List (List Byte)
  | 0, _ => []
  | n + 1, l => l.take size :: chunks size n (l.drop size)

/-- Read every record of a run, or `none` when one of them is out of range. -/
def decodeAll {α : Type} (dec : List Byte → Option α) : List (List Byte) → Option (List α)
  | [] => some []
  | r :: rs =>
    match dec r, decodeAll dec rs with
    | some x, some xs => some (x :: xs)
    | _, _ => none

/-- Write records to consecutive entries, in order, replacing them whole. -/
def writeRun {α : Type} {n : Nat} (v : Vector α n) (first : Nat) : List α → Vector α n
  | [] => v
  | x :: xs => writeRun (v.setIfInBounds first x) (first + 1) xs

/-- `count` consecutive entries in order. -/
def readRun {α : Type} {n : Nat} (v : Vector α n) (first count : Nat) : List α := (v.toList.drop first).take count

/-! ## Drive-side payloads (section 8.7) -/

/-- Drive state codes; a code that names none is taken as FAULT (R83). -/
def decodeDrive (b : Byte) : DriveState :=
  if b = 0x00#8 then .ready else if b = 0x01#8 then .running else .fault

/-- Brake state codes; a code that names none is taken as MOVING (R83). -/
def decodeBrake (b : Byte) : BrakeState :=
  if b = 0x00#8 then .released else if b = 0x01#8 then .set else .moving

/-- The five payload bytes of a DRIVE frame. -/
def drivePayload (speed : Int) (brake : BrakeCommand) (mark : GateMark) (origin : Byte) : List Byte :=
  intBytes 2 speed ++ [brake.code, mark.code, origin]

/-- R72's rewrite of a waiting DRIVE frame: speed 0, brake SET, mark FORCED, the other fields kept, CHECK afresh. -/
def forceFrame (f : Frame) : Frame :=
  Frame.sealed { f with payload :=
    [0x00#8, 0x00#8, BrakeCommand.set.code, GateMark.forced.code] ++ f.payload.drop 4 }

/-! ## Requests (section 8.7, R176) -/

/-- The request code, absent for LEN 0. -/
def Frame.code (f : Frame) : Option Byte := f.payload.head?

/-- The code a reply echoes: 0x00 for a request of LEN 0 (R175). -/
def Frame.echo (f : Frame) : Byte := byteAt f.payload 0

def codeStatus : Byte := 0x01#8
def codeFetch : Byte := 0x02#8
def codeTableWrite : Byte := 0x10#8
def codeTableRead : Byte := 0x11#8
def codeCopy : Byte := 0x12#8
def codeActivate : Byte := 0x13#8
def codeListWrite : Byte := 0x18#8
def codeListRead : Byte := 0x19#8
def codeStartList : Byte := 0x20#8
def codeContinue : Byte := 0x21#8
def codeStop : Byte := 0x22#8
def codeTraffic : Byte := 0x23#8
def codeRespond : Byte := 0x24#8
def codePark : Byte := 0x25#8
def codeRelease : Byte := 0x26#8
def codeSetDepth : Byte := 0x27#8
def codeQuiesce : Byte := 0x30#8
def codeThaw : Byte := 0x31#8
def codeClearTrip : Byte := 0x32#8
def codeReset : Byte := 0x3F#8

/-- The request codes of section 8.7. -/
def requestCodes : List Byte :=
  [codeStatus, codeFetch, codeTableWrite, codeTableRead, codeCopy, codeActivate, codeListWrite, codeListRead,
   codeStartList, codeContinue, codeStop, codeTraffic, codeRespond, codePark, codeRelease, codeSetDepth,
   codeQuiesce, codeThaw, codeClearTrip, codeReset]

/-- The request codes that name a channel (R176 step 4). -/
def channelCodes : List Byte :=
  [codeStartList, codeContinue, codeStop, codeTraffic, codeRespond, codePark, codeRelease, codeSetDepth]

/-- The tables of TABLE_WRITE and TABLE_READ (section 8.7). -/
inductive Table where
  | shaft | zones | landmarks | hoists
  deriving DecidableEq, Repr

/-- Table codes (section 8.7). -/
def decodeTable (b : Byte) : Option Table :=
  if b = 0x00#8 then some .shaft else if b = 0x01#8 then some .zones
  else if b = 0x02#8 then some .landmarks else if b = 0x03#8 then some .hoists else none

/-- Entries a table holds. -/
def Table.size : Table → Nat
  | .shaft => 1
  | .zones => 32
  | .landmarks => 64
  | .hoists => 4

/-- Records of a table that one request or reply carries at most (section 8.7). -/
def Table.most : Table → Nat
  | .shaft => 1
  | .zones => 4
  | .landmarks => 5
  | .hoists => 1

/-- Bytes of a table's record (section 8.7). -/
def Table.recordSize : Table → Nat
  | .shaft => 30
  | .zones => 9
  | .landmarks => 8
  | .hoists => 41

/-- The table's number in an ACTIVATE reply. -/
def Table.code : Table → Byte
  | .shaft => 0x00#8
  | .zones => 0x01#8
  | .landmarks => 0x02#8
  | .hoists => 0x03#8

/-- Where a TABLE_WRITE's records begin: offset 3, or 4 with the zone count (section 8.7). -/
def Table.recordsAt : Table → Nat
  | .zones => 4
  | _ => 3

/-- A LEN of TABLE_WRITE that carries 1 to `most` whole records of the table (R176 step 3). -/
def Table.writeLen (t : Table) (len : Nat) : Bool :=
  (List.range t.most).any fun k => len == t.recordsAt + t.recordSize * (k + 1)

/-- How many records a TABLE_WRITE of a matching LEN carries. -/
def Table.carried (t : Table) (len : Nat) : Nat := (len - t.recordsAt) / t.recordSize

/-- The LEN matches the request code (R176 step 3). -/
def lenOk (payload : List Byte) : Bool :=
  let n := payload.length
  let code := byteAt payload 0
  if code = codeTableWrite then
    decide (3 ≤ n) && (match decodeTable (byteAt payload 1) with
      | some t => t.writeLen n
      | none => true)
  else if code = codeTableRead then n == 5
  else if code = codeActivate then n == 4
  else if code = codeListWrite then n == 15 || n == 28 || n == 41
  else if code = codeListRead then n == 3
  else if code = codeStartList then n == 4
  else if code = codeRespond then n == 10
  else if code = codeSetDepth then n == 6
  else if [codeContinue, codeStop, codeTraffic, codePark, codeRelease, codeQuiesce, codeReset].contains code then
    n == 2
  else n == 1

/-- The checks common to all requests (R176): the first that fails. -/
def commonCheck (f : Frame) : Option Result :=
  match f.code with
  | none => some .badRequest
  | some code =>
    if !requestCodes.contains code then some .badRequest
    else if !lenOk f.payload then some .badRequest
    else if channelCodes.contains code && decide (3 < (byteAt f.payload 1).toNat) then some .badChannel
    else none

/-- The channel a channel request names (0 to 3 once R176 has passed it). -/
def Frame.channel (f : Frame) : Chan := (chanOf (byteAt f.payload 1).toNat).getD .c3

/-- The REPLY to a request (R175): the code echoed, the result, the data. -/
def State.replyTo (s : State) (f : Frame) (r : Result) (data : List Byte) : Frame :=
  Frame.sealed
    { dest := f.src, src := s.supervisor, kind := kindReply, tag := f.tag,
      payload := [f.echo, r.code] ++ data, check := 0x00#8 }

end Sys2Proof.Machine
end

