-- ==== Sys2Proof/Machine/Engine.lean ====
section
/-! DEFINITION. The request engine's taking of a request (R174): when it may take one, whose row the oldest request
belongs to, the checks common to all requests (R176), the effect, and the one reply (R175). -/

namespace Sys2Proof.Machine

/-- The engine may take a request (R174), the queue being not empty. -/
def State.engineReady (s : State) : Bool :=
  s.activation.isNone && s.resetPending.isNone && !s.heldInReset && decide (s.upSlots < Config.txDepth)

/-- Take the oldest request if the engine may and the request belongs to the row: it leaves the queue and port U
reserves a slot for its reply (R165, R174). Otherwise the step does not happen (log 2). -/
def State.takeRequest (s : State) (mine : Frame → Bool) (body : State → Frame → State) : State :=
  match s.engineReady, s.requests with
  | true, f :: rest => if mine f then body { s with requests := rest, reserved := true } f else s
  | _, _ => s

/-- Append a reply into the reservation, which is released (R165, R174). -/
def State.answerAs (s : State) (kind : TxKind) (f : Frame) (r : Result) (data : List Byte) : State :=
  ({ s with reserved := false }).sendReply kind (s.replyTo f r data)

/-- Append an ordinary reply. -/
def State.answer (s : State) (f : Frame) (r : Result) (data : List Byte) : State := s.answerAs .reply f r data

/-- What a request's owning rule makes of it: the state it leaves, the result and the reply's data. -/
structure Reaction where
  state : State
  result : Result
  data : List Byte

/-- A refusal: nothing changes, the reply carries the code and no data (R175, R176). -/
def refusedAs (s : State) (r : Result) : Reaction := ⟨s, r, []⟩

/-- An acceptance without reply data. -/
def acceptedAs (s : State) : Reaction := ⟨s, .ok, []⟩

/-- Take a request whose effect and reply fall in the event of the taking (R174): the common checks (R176), then
the owning rule. -/
def State.serve (s : State) (mine : Frame → Bool) (rule : State → Frame → Reaction) : State :=
  s.takeRequest mine fun s f =>
    match commonCheck f with
    | some r => s.answer f r []
    | none => (rule s f).state.answer f (rule s f).result (rule s f).data

/-- The request carries this code. -/
def hasCode (code : Byte) (f : Frame) : Bool := f.code == some code

/-- The request is of a code whose rows its first operand tells apart (ACTIVATE, QUIESCE, RESET): every request of
the code but a well-formed one with the other row's operand. A LEN that does not match and an operand that names
nothing are refused alike in both rows (R171, R176; log 3). -/
def hasScope (code other : Byte) (f : Frame) : Bool :=
  hasCode code f && !(lenOk f.payload && byteAt f.payload 1 == other)

/-- A request of LEN 0 or with an unknown code (R176). -/
def isUnknown (f : Frame) : Bool :=
  match f.code with
  | none => true
  | some code => !requestCodes.contains code

/-- UNKNOWN_REQUEST (R176): refused BAD_REQUEST by the common checks. -/
def execUnknownRequest (dt : Nat) (s : State) : Host.Outcome State Fault Refusal :=
  .next ((s.advance dt).serve isUnknown fun s _ => refusedAs s .badRequest)

end Sys2Proof.Machine
end

