-- ==== Sys2Proof/Machine/Shaft.lean ====
section
/-! DEFINITION. The shaft tables as the other blocks read them: the zone of a depth (R6), a lane's figures, the
consistency checks of ACTIVATE (R16, R19) and the image its CRC-16 is taken over (R15). -/

namespace Sys2Proof.Machine

/-- A lane's figures in the SHAFT record. -/
def Shaft.figures (r : Shaft) : Lane → LaneFigures
  | .a => r.laneA
  | .b => r.laneB

/-- A zone's limit in a lane, mm/s; 0 means closed (R5, R6). -/
def Zone.limit (z : Zone) : Lane → Nat
  | .a => z.limitA
  | .b => z.limitB

/-- The entries of a bank's ZONES table: slots 0 to count − 1 (R5). -/
def Bank.entries (b : Bank) : List Zone := b.zones.toList.take b.zoneCount

/-- The entry in which a depth in mm lies (R6): the first whose successor's top is deeper than the depth, or the
last. -/
def zoneAt : List Zone → Nat → Option Zone
  | [], _ => none
  | [z], _ => some z
  | z :: z' :: rest, d => if d < z'.top then some z else zoneAt (z' :: rest) d

/-- The exposed depth in mm (R20). -/
def Reckoning.depthMm (r : Reckoning) : Nat := r.depth / 1000

/-- The channel's exposed depth in mm. -/
def State.depthMm (s : State) (c : Chan) : Nat := (s.reckon c).depthMm

/-- The lane figures of a channel in the ACTIVE SHAFT record. -/
def State.lane (s : State) (c : Chan) : LaneFigures := s.active.shaft.figures (laneOf c)

/-! ## Consistency checks (R16) -/

/-- A failed check: table, entry and check number (R14, R16). -/
structure Failure where
  table : Table
  entry : Nat
  check : Nat
  deriving DecidableEq, Repr

/-- The first place, counted from `i`, where a top is not above its predecessor's (check 5). -/
def notAscending : Nat → List Zone → Option Nat
  | i, z :: z' :: rest => if z.top < z'.top then notAscending (i + 1) (z' :: rest) else some (i + 1)
  | _, _ => none

/-- Checks 3 to 6 on a zone table against a floor depth (R16, R19). -/
def zoneFailure (count : Nat) (entries : List Zone) (floor : Nat) : Option Failure :=
  if count < 1 then some ⟨.zones, 0, 3⟩
  else if (entries.head?.map Zone.top).getD 0 ≠ 0 then some ⟨.zones, 0, 4⟩
  else
    match notAscending 0 entries with
    | some i => some ⟨.zones, i, 5⟩
    | none =>
      if (entries.getLast?.map Zone.top).getD 0 < floor then none else some ⟨.zones, count - 1, 6⟩

/-- A lane's stops are in order and above the floor (check 2). -/
def LaneFigures.ordered (l : LaneFigures) (floor : Nat) : Bool :=
  decide (l.top < l.bottom) && decide (l.bottom ≤ floor)

/-- Checks 1 and 2 (R16). -/
def shaftFailure (r : Shaft) : Option Failure :=
  if !r.inRange then some ⟨.shaft, 0, 1⟩
  else if r.laneA.ordered r.floor && r.laneB.ordered r.floor then none else some ⟨.shaft, 0, 2⟩

/-- Check 7: the first present landmark beyond the floor (R16). -/
def landmarkFailure (marks : List Landmark) (floor : Nat) : Option Failure :=
  match marks.findIdx? (fun m => m.present && decide (floor * 1000 < m.depth)) with
  | some i => some ⟨.landmarks, i, 7⟩
  | none => none

/-- Checks 8 to 11 for one HOISTS record; `before` are the drive addresses of the lower-numbered records. -/
def hoistFailure (i : Nat) (h : Hoist) (supervisor signalling : Byte) (before : List Byte) : Option Failure :=
  if !h.inRange then some ⟨.hoists, i, 8⟩
  else if h.aS < h.aR then some ⟨.hoists, i, 9⟩
  else if h.doubtful < h.crawl || decide (h.driveLimit < h.doubtful) then some ⟨.hoists, i, 10⟩
  else if h.addr == 0xFF#8 || h.addr == supervisor || h.addr == signalling || before.contains h.addr then
    some ⟨.hoists, i, 11⟩
  else none

/-- Checks 8 to 11 record by record (R16). -/
def hoistsFailure (q : Quad Hoist) (supervisor signalling : Byte) : Option Failure :=
  (hoistFailure 0 q.v0 supervisor signalling []).or
    ((hoistFailure 1 q.v1 supervisor signalling [q.v0.addr]).or
      ((hoistFailure 2 q.v2 supervisor signalling [q.v0.addr, q.v1.addr]).or
        (hoistFailure 3 q.v3 supervisor signalling [q.v0.addr, q.v1.addr, q.v2.addr])))

/-- The checks of scope ALL in the order of R16. -/
def allFailure (b : Bank) (supervisor : Byte) : Option Failure :=
  (shaftFailure b.shaft).or
    ((zoneFailure b.zoneCount b.entries b.shaft.floor).or
      ((landmarkFailure b.landmarks.toList b.shaft.floor).or
        (hoistsFailure b.hoists supervisor b.shaft.signalling)))

/-! ## The image (R15) -/

/-- The zone image: the count as one byte and entries 0 to count − 1. -/
def Bank.zoneImage (b : Bank) : List Byte :=
  natBytes 1 b.zoneCount ++ (b.entries.map Zone.encode).flatten

/-- The image of scope ALL. -/
def Bank.allImage (b : Bank) : List Byte :=
  b.shaft.encode ++ b.zoneImage ++ (b.landmarks.toList.map Landmark.encode).flatten
    ++ b.hoists.v0.encode ++ b.hoists.v1.encode ++ b.hoists.v2.encode ++ b.hoists.v3.encode

/-- The image of a scope. -/
def Bank.image (b : Bank) : Scope → List Byte
  | .all => b.allImage
  | .zones => b.zoneImage

end Sys2Proof.Machine
end

