-- ==== Sys2Proof/Machine/Channels.lean ====
section
/-! DEFINITION. The channel controller's shared operations: the timers that run by state (R80 to R82), rest
confirmation (R84), the stall watch (R45), abandoning a list and an injection (R89, R93, R98), entering STOPPING
(R89, R91), FAULT (R93) and the brake phases (R136 to R138, R141). -/

namespace Sys2Proof.Machine

/-! ## Timers -/

/-- The emission timer runs: started with the emission period when it did not run, otherwise left as it is (R80). -/
def State.runEmission (s : State) (c : Chan) : State :=
  s.modCtl c fun k =>
    match k.emission with
    | some _ => k
    | none => { k with emission := some (s.ms + (s.hoist c).emission) }

/-- The emission timer is (re)started with the emission period (R80). -/
def State.restartEmission (s : State) (c : Chan) : State :=
  s.modCtl c fun k => { k with emission := some (s.ms + (s.hoist c).emission) }

/-- The feedback timer is (re)started with the demand timeout (R82). -/
def State.restartFeedback (s : State) (c : Chan) : State :=
  s.modCtl c fun k => { k with feedback := some (s.ms + (s.hoist c).demandTimeout) }

/-- The demand timer is (re)started with the demand timeout (R81). -/
def State.restartDemand (s : State) (c : Chan) : State :=
  s.modCtl c fun k => { k with demand := some (s.ms + (s.hoist c).demandTimeout) }

/-- The brake confirm timer is started with the brake confirm timeout (R136, R137, R141). -/
def State.startBrake (s : State) (c : Chan) : State :=
  s.modCtl c fun k => { k with brake := some (s.ms + (s.hoist c).brakeConfirm) }

/-! ## Rest (R84) -/

/-- Rest is confirmed for the channel: output 0, a FEEDBACK later than the zero moment, and its actual speed at or
below the standstill threshold. -/
def State.rest (s : State) (c : Chan) : Bool :=
  match (s.ctl c).record with
  | some r =>
    decide ((s.gate c).out = 0) && r.time.later (s.ctl c).zeroMoment
      && decide (r.actual.natAbs ≤ (s.hoist c).standstill)
  | none => false

/-! ## The stall watch (R45) -/

/-- Both conditions of the watch hold: a watched state, and the output at or above crawl. -/
def State.watchRuns (s : State) (c : Chan) : Bool :=
  (s.ctl c).state.watched && decide ((s.hoist c).crawl * 1000 ≤ (s.gate c).out.natAbs)

/-- After an evaluation or a change of state the watch begins, runs on with its reference, or stops. When it
begins the reference is now: the last tooth is not later, and this is the first evaluation of the run at or above
crawl (R45; log 18). -/
def State.settleWatch (s : State) (c : Chan) : State :=
  s.modCtl c fun k =>
    if s.watchRuns c then
      match k.watch with
      | some _ => k
      | none => { k with watch := some ⟨s.now, (s.hoist c).toothHold⟩ }
    else { k with watch := none }

/-- Change the channel state, and settle the stall watch (R45, R78). -/
def State.enter (s : State) (c : Chan) (st : ChanState) : State :=
  (s.modCtl c fun k => { k with state := st }).settleWatch c

/-! ## Giving up what the channel was doing -/

/-- The list is given up: the current descriptor becomes none, a dwell timer for it is stopped, a carried dwell is
dropped (R89, R93, R98, R121, R131). -/
def Controller.dropList (k : Controller) : Controller :=
  { k with current := none, listPhase := .approach, dwell := none, carried := none }

/-- The injection is given up: the save slot is emptied and the duration timer stopped (R133). DESIGN CHOICE (log 21):
the limited mark, which has no value outside an injection (R129), keeps its last one. Safe: it is read only in INJECTED,
and the start of an injection clears it. -/
def Controller.dropInjection (k : Controller) : Controller := { k with slot := none, duration := none }

/-- The demand, prove and brake confirm timers are stopped (R93, R98, R147). -/
def Controller.stopPhases (k : Controller) : Controller := { k with demand := none, prove := none, brake := none }

/-- R72: the channel's waiting drive entry is rewritten where it stands. -/
def State.rewriteForced (s : State) (c : Chan) : State :=
  s.modPort .d fun q => { q with tx := q.tx.map fun e => if e.isDrive c then { e with frame := forceFrame e.frame } else e }

/-! ## Stopping (R89 to R91) -/

/-- The state a stop completes into. -/
def Destination.state : Destination → ChanState
  | .held => .held
  | .suspended => .suspended

/-- A STOPPING channel at confirmed rest enters its destination (R91). -/
def State.tryStop (s : State) (c : Chan) : State :=
  match (s.ctl c).state with
  | .stopping d => if s.rest c then s.enter c d.state else s
  | _ => s

/-- Enter STOPPING with destination HELD (R89): list and injection are abandoned, the demand timer stopped, the
emission timer runs; the stop completes at once when rest is already confirmed (R91). -/
def State.stopToHeld (s : State) (c : Chan) : State :=
  (((s.modCtl c fun k => { k.dropList.dropInjection with demand := none }).runEmission c).enter c
    (.stopping .held)).tryStop c

/-- Enter STOPPING with destination SUSPENDED (R89, R116): the current descriptor is kept, the list phase is
APPROACH and its dwell has not begun. -/
def State.stopToSuspended (s : State) (c : Chan) : State :=
  (((s.modCtl c fun k => { k with listPhase := .approach, dwell := none }).runEmission c).enter c
    (.stopping .suspended)).tryStop c

/-- In STOPPING with destination SUSPENDED the destination becomes HELD and the list position is abandoned
(R92, R145). -/
def State.redirectToHeld (s : State) (c : Chan) : State :=
  (s.modCtl c Controller.dropList).enter c (.stopping .held)

/-! ## Fault (R93) -/

/-- Enter FAULT, whatever the cause (R93). -/
def State.enterFault (s : State) (c : Chan) : State :=
  (((s.modCtl c fun k => k.dropList.dropInjection.stopPhases).runEmission c).enter c .fault).rewriteForced c

/-! ## Brake phases (R136 to R141) -/

/-- Enter PARKING phase SET (R137): the brake confirm timer is started; an output still not 0 becomes 0 and the
zero moment is this moment (R138). -/
def State.enterParkingSet (s : State) (c : Chan) : State :=
  let s := (s.modCtl c Controller.stopPhases).startBrake c
  let s :=
    if (s.gate c).out = 0 then s
    else (s.modGate c fun g => { g with out := 0 }).modCtl c fun k => { k with zeroMoment := s.moment }
  s.enter c .parkingSet

/-- In PARKING phase RAMP, confirmed rest leads to phase SET (R136). -/
def State.tryRampRest (s : State) (c : Chan) : State :=
  if (s.ctl c).state = .parkingRamp ∧ s.rest c = true then s.enterParkingSet c else s

/-- Enter PARKING phase RAMP (R98, R136): the brake confirm timer starts at entry when the output is already 0,
and rest is tested at entry. -/
def State.enterParkingRamp (s : State) (c : Chan) : State :=
  let s := ((s.modCtl c fun k => k.dropList.dropInjection.stopPhases).runEmission c).enter c .parkingRamp
  let s := if (s.gate c).out = 0 then s.startBrake c else s
  s.tryRampRest c

/-- Enter PARKED (R137, R139): the brake confirm timer is stopped and a waiting drive entry is rewritten (R72). -/
def State.enterParked (s : State) (c : Chan) : State :=
  ((s.modCtl c fun k => { k with brake := none }).enter c .parked).rewriteForced c

/-- Enter RELEASING phase OPEN (R141). -/
def State.enterOpen (s : State) (c : Chan) : State :=
  ((s.modCtl c fun k => { k with prove := none }).startBrake c).enter c .releasingOpen

/-! ## Trip (R147) -/

/-- One channel at an assertion of TRIP_N: a channel already TRIPPED stays as it is; without an ACTIVE hoist
record the emission and feedback timers stay stopped (R147). -/
def State.tripChannel (s : State) (c : Chan) : State :=
  if (s.ctl c).state = .tripped then s
  else
    let s := s.modCtl c fun k => k.dropList.dropInjection.stopPhases
    let s := if s.configured c then s.runEmission c else s.modCtl c fun k => { k with emission := none, feedback := none }
    (s.enter c .tripped).rewriteForced c

end Sys2Proof.Machine
end

