-- ==== Sys2Proof/Machine/Lists.lean ====
section
/-! DEFINITION. Move lists: successors (R107), becoming current and the bar (R108, R109), the approach demand
(R111), arrival and dwell (R112 to R114), landmark matches (R115 to R118), continuation (R120) and the guard
(R105). -/

namespace Sys2Proof.Machine

/-- The descriptor at an index, as it stands. -/
def State.desc (s : State) (i : Fin 256) : Descriptor := s.descs[i]

/-- The successor of the descriptor at index `i` (R107). -/
def State.successor (s : State) (i : Fin 256) : Option (Fin 256) :=
  match (s.desc i).next with
  | .next => if h : i.val + 1 < 256 then some ⟨i.val + 1, h⟩ else none
  | .link j => some j
  | .stopHere => none

/-- Why a descriptor that becomes current on a channel is barred: the first condition of R109 that holds. -/
def State.barred (s : State) (c : Chan) (d : Descriptor) : Option ListCause :=
  if d.cruise = 0 then some .invalid
  else if d.target < (s.lane c).top || decide ((s.lane c).bottom < d.target) then some .outsideStops
  else if decide (0 < d.dwell) && ((zoneAt s.active.entries d.target).map Zone.noDwell).getD false then
    some .noDwellZone
  else none

/-- A descriptor becomes current on a channel in LIST (R108) and is checked; a barred one raises LIST_FAULT and
takes the channel to STOPPING with destination HELD (R109). -/
def State.becomeCurrent (s : State) (c : Chan) (i : Fin 256) : State :=
  let s := s.modCtl c fun k =>
    { k with current := some i, listPhase := .approach, evaluated := false, dwell := none, carried := none }
  match s.barred c (s.desc i) with
  | some cause => (s.raiseDetail c .listFault fun d => { d with listFault := some (i, cause) }).stopToHeld c
  | none => s

/-- The list ends into HELD with LIST_END (R114, R120). -/
def State.endList (s : State) (c : Chan) : State :=
  ((s.modCtl c Controller.dropList).enter c .held).raise c .listEnd

/-- The remaining distance r in mm: target less depth (R111). -/
def State.remaining (s : State) (c : Chan) (d : Descriptor) : Int := (d.target : Int) - (s.depthMm c : Int)

/-- |r| is at most the arrival window (R111, R112). -/
def State.inWindow (s : State) (c : Chan) (d : Descriptor) : Bool :=
  decide ((s.remaining c d).natAbs ≤ (s.hoist c).arrival)

/-- The approach demand in µm/s (R111); 0 in phase DWELL (R113). -/
def State.approachDemand (s : State) (c : Chan) : Int :=
  match (s.ctl c).current with
  | none => 0
  | some i =>
    let d := s.desc i
    if (s.ctl c).listPhase = .dwell ∨ s.inWindow c d = true then 0
    else
      let speed := min d.cruise (min (s.hoist c).driveLimit (isqrt (2 * (s.hoist c).aS * (s.remaining c d).natAbs)))
      (s.remaining c d).sign * ((speed * 1000 : Nat) : Int)

/-- The current descriptor completes (R114): MOVE_DONE when it asks for it, then its successor, or the end. -/
def State.complete (s : State) (c : Chan) (i : Fin 256) : State :=
  let s := if (s.desc i).notify then s.raise c .moveDone else s
  match s.successor i with
  | some j => s.becomeCurrent c j
  | none => s.endList c

/-- Arrival is declared: phase DWELL with the carried dwell or the descriptor's own; a dwell of 0 completes at once
(R112, R131). -/
def State.arrive (s : State) (c : Chan) (i : Fin 256) : State :=
  let dwell := (s.ctl c).carried.getD (s.desc i).dwell
  let s := s.modCtl c fun k => { k with listPhase := .dwell, carried := none }
  if dwell = 0 then s.complete c i else s.modCtl c fun k => { k with dwell := some (s.ms + dwell) }

/-- The test of arrival (R112). -/
def State.tryArrive (s : State) (c : Chan) : State :=
  match (s.ctl c).current with
  | none => s
  | some i =>
    if (s.ctl c).state = .list ∧ (s.ctl c).listPhase = .approach ∧ (s.ctl c).evaluated = true
        ∧ s.inWindow c (s.desc i) = true ∧ s.rest c = true then s.arrive c i
    else s

/-- A pair stop reaches the partner (R117). -/
def State.pairStop (s : State) (c : Chan) : State :=
  match (s.ctl c).state with
  | .trafficLive | .trafficLapsed | .list | .injected | .suspended => s.stopToHeld c
  | _ => s

/-- The current descriptor is skipped (R118). -/
def State.skip (s : State) (c : Chan) (i : Fin 256) : State :=
  match s.successor i with
  | some j => s.becomeCurrent c j
  | none => (s.raise c .listEnd).stopToHeld c

/-- A matched list acts by its match action (R115 to R118). -/
def State.actOnMatch (s : State) (c : Chan) (i : Fin 256) : MatchAction → State
  | .note => s
  | .stopSelf => s.stopToSuspended c
  | .stopPair => (s.stopToSuspended c).pairStop (partnerOf c)
  | .skip => s.skip c i

/-- An attributed landmark event with error `e` mm is offered to the channel's list (R115). -/
def State.offerLandmark (s : State) (c : Chan) (n : Fin 64) (e : Int) : State :=
  match (s.ctl c).current with
  | none => s
  | some i =>
    match (s.desc i).watch with
    | none => s
    | some (m, action) =>
      if (s.ctl c).state = .list ∧ (s.ctl c).listPhase = .approach ∧ m = n then
        (s.raiseDetail c .landmarkMatch fun d => { d with landmark := some (e, n.val) }).actOnMatch c i action
      else s

/-- START_LIST's change (R97, R110): into LIST with the named descriptor current. -/
def State.startList (s : State) (c : Chan) (i : Fin 256) : State :=
  (((s.modCtl c fun k => { k with demand := none }).runEmission c).enter c .list).becomeCurrent c i

/-- CONTINUE's change in SUSPENDED (R120): the successor becomes current in LIST, or the list ends into HELD. -/
def State.continueList (s : State) (c : Chan) : State :=
  match (s.ctl c).current with
  | none => s.endList c
  | some i =>
    match s.successor i with
    | some j => (s.enter c .list).becomeCurrent c j
    | none => s.endList c

/-- The descriptor a save slot records (R125). -/
def Saved.index : Saved → Option (Fin 256)
  | .traffic | .held => none
  | .list i _ | .suspended i _ => some i

/-- A channel guards an index: as its current descriptor or in its save slot (R105). -/
def Controller.guards (k : Controller) (i : Fin 256) : Bool :=
  k.current == some i || k.slot.bind Saved.index == some i

/-- Some channel guards the index (R105). -/
def State.guarded (s : State) (i : Fin 256) : Bool := allChans.any fun c => (s.ctl c).guards i

end Sys2Proof.Machine
end

