-- ==== Sys2Proof/Machine/Injections.lean ====
section
/-! DEFINITION. Response injections: starting and replacing (R123 to R126), the converted demand (R127, R128),
expiry and return (R130 to R132). -/

namespace Sys2Proof.Machine

/-- The rope load for power conversion is missing or below F_min (R128). -/
def State.slack (s : State) (c : Chan) : Bool :=
  match (s.ctl c).record with
  | some r => decide (r.load < (s.hoist c).fMin)
  | none => true

/-- The injection's demand in µm/s (R127, R128). -/
def State.injectedDemand (s : State) (c : Chan) : Int :=
  match (s.ctl c).record with
  | none => 0
  | some r =>
    if s.slack c then 0
    else
      let limit : Int := (s.hoist c).driveLimit
      clampInt (-limit) limit ((1000 * (s.ctl c).power).tdiv (r.load : Int)) * 1000

/-- The dwell remaining that a RESPOND records (R125): what is left of a running dwell, or a carried dwell. A
running dwell has at least 1 ms left, since one that has reached its expiry has completed (log 16). -/
def State.dwellLeft (s : State) (c : Chan) : Option Nat :=
  match (s.ctl c).dwell with
  | some e => some (max 1 (e - s.ms))
  | none => (s.ctl c).carried

/-- What the save slot records of the state a RESPOND interrupts (R125); `none` where RESPOND starts no injection. -/
def State.saveOf (s : State) (c : Chan) : Option Saved :=
  match (s.ctl c).state, (s.ctl c).current with
  | .trafficLive, _ | .trafficLapsed, _ => some .traffic
  | .held, _ => some .held
  | .list, some i => some (.list i (s.dwellLeft c))
  | .suspended, some i => some (.suspended i (s.dwellLeft c))
  | _, _ => none

/-- An accepted RESPOND starts an injection (R124). -/
def State.startInjection (s : State) (c : Chan) (saved : Saved) (power : Int) (duration : Nat) : State :=
  ((s.modCtl c fun k =>
    { k.dropList with demand := none, slot := some saved, power := power, duration := some (s.ms + duration),
                      limited := false }).runEmission c).enter c .injected

/-- An accepted RESPOND in INJECTED replaces power and duration and clears the limited mark (R126). -/
def State.replaceInjection (s : State) (c : Chan) (power : Int) (duration : Nat) : State :=
  s.modCtl c fun k => { k with power := power, duration := some (s.ms + duration), limited := false }

/-- The saved descriptor is current again, in phase APPROACH, with the dwell remaining as its carried dwell
(R131, R132). -/
def Controller.resume (k : Controller) (i : Fin 256) (dwellLeft : Option Nat) : Controller :=
  { k with current := some i, listPhase := .approach, evaluated := false, dwell := none, carried := dwellLeft }

/-- The channel returns to the state its save slot calls for (R130 to R132). -/
def State.returnTo (s : State) (c : Chan) : Saved → State
  | .traffic => s.enter c .trafficLapsed
  | .list i left => (s.modCtl c fun k => k.resume i left).enter c .list
  | .held => s.stopToHeld c
  | .suspended i left => (s.modCtl c fun k => k.resume i left).stopToSuspended c

/-- The duration timer's expiry (R130). -/
def State.endInjection (s : State) (c : Chan) : State :=
  match (s.ctl c).slot with
  | some saved => ((s.raise c .responseDone).modCtl c Controller.dropInjection).returnTo c saved
  | none => s

end Sys2Proof.Machine
end

