-- ==== Sys2Proof/Machine/ChannelRequests.lean ====
section
/-! DEFINITION. The requests that name a channel: START_LIST, CONTINUE, STOP, TRAFFIC, RESPOND, PARK and RELEASE by
the grid of section 4.8 (R96 to R99), and SET_DEPTH (R43, R44). -/

namespace Sys2Proof.Machine

/-! ## START_LIST and CONTINUE -/

/-- States in which the grid accepts START_LIST. -/
def ChanState.admitsStart : ChanState → Bool
  | .held | .trafficLive | .trafficLapsed | .suspended => true
  | _ => false

/-- START_LIST's rule (R96, R97, R110). -/
def startListRule (s : State) (f : Frame) : Reaction :=
  if h : natAt f.payload 2 2 < 256 then
    if s.freeze then refusedAs s .frozen
    else if (s.ctl f.channel).state.admitsStart then acceptedAs (s.startList f.channel ⟨natAt f.payload 2 2, h⟩)
    else refusedAs s .state
  else refusedAs s .badIndex

/-- START_LIST (R110). -/
def execStartList (dt : Nat) (s : State) : Host.Outcome State Fault Refusal :=
  .next ((s.advance dt).serve (hasCode codeStartList) startListRule)

/-- CONTINUE's rule (R96, R97, R120). -/
def continueRule (s : State) (f : Frame) : Reaction :=
  if s.freeze then refusedAs s .frozen
  else if (s.ctl f.channel).state = .suspended then acceptedAs (s.continueList f.channel)
  else refusedAs s .state

/-- CONTINUE (R120). -/
def execContinueList (dt : Nat) (s : State) : Host.Outcome State Fault Refusal :=
  .next ((s.advance dt).serve (hasCode codeContinue) continueRule)

/-! ## STOP -/

/-- STOP's effect by state (R92). -/
def State.stopChannel (s : State) (c : Chan) : State :=
  match (s.ctl c).state with
  | .trafficLive | .trafficLapsed | .list | .injected | .suspended => s.stopToHeld c
  | .stopping .suspended => s.redirectToHeld c
  | _ => s

/-- STOP's rule (R92): accepted in every state. -/
def stopRule (s : State) (f : Frame) : Reaction := acceptedAs (s.stopChannel f.channel)

/-- STOP (R92). -/
def execStop (dt : Nat) (s : State) : Host.Outcome State Fault Refusal :=
  .next ((s.advance dt).serve (hasCode codeStop) stopRule)

/-! ## TRAFFIC -/

/-- TRAFFIC's change (R86): into TRAFFIC-LIVE, the emission timer stopped and the demand timer started. -/
def State.startTraffic (s : State) (c : Chan) : State :=
  ((s.modCtl c fun k => { k with emission := none }).restartDemand c).enter c .trafficLive

/-- TRAFFIC's rule (R86, R96). -/
def trafficRule (s : State) (f : Frame) : Reaction :=
  if s.freeze then refusedAs s .frozen
  else if (s.ctl f.channel).state = .held then acceptedAs (s.startTraffic f.channel)
  else refusedAs s .state

/-- TRAFFIC (R86). -/
def execTraffic (dt : Nat) (s : State) : Host.Outcome State Fault Refusal :=
  .next ((s.advance dt).serve (hasCode codeTraffic) trafficRule)

/-! ## RESPOND -/

/-- The clamped power of a RESPOND in kW (R123). -/
def respondPower (f : Frame) : Int := clampInt (-Config.maxPower) Config.maxPower (intAt f.payload 2 4)

/-- The clamped duration of a RESPOND in ms (R123). -/
def respondDuration (f : Frame) : Nat := min Config.maxDuration (natAt f.payload 6 4)

/-- RESPOND's rule (R96, R123, R124, R126). -/
def respondRule (s : State) (f : Frame) : Reaction :=
  if natAt f.payload 6 4 = 0 then refusedAs s .badValue
  else if s.freeze then refusedAs s .frozen
  else if (s.ctl f.channel).state = .injected then
    acceptedAs (s.replaceInjection f.channel (respondPower f) (respondDuration f))
  else
    match s.saveOf f.channel with
    | some saved => acceptedAs (s.startInjection f.channel saved (respondPower f) (respondDuration f))
    | none => refusedAs s .state

/-- RESPOND (R124). -/
def execRespond (dt : Nat) (s : State) : Host.Outcome State Fault Refusal :=
  .next ((s.advance dt).serve (hasCode codeRespond) respondRule)

/-! ## PARK and RELEASE -/

/-- The drive state in the record is not FAULT (R95): READY, RUNNING or "none yet". -/
def Controller.driveSound (k : Controller) : Bool := k.record.all fun r => r.drive != .fault

/-- PARK into phase SET (R98). -/
def State.parkToSet (s : State) (c : Chan) : State :=
  ((s.modCtl c fun k => k.dropList.dropInjection).runEmission c).enterParkingSet c

/-- PARK's rule (R98). -/
def parkRule (s : State) (f : Frame) : Reaction :=
  match (s.ctl f.channel).state with
  | .held | .trafficLive | .trafficLapsed | .list | .suspended | .injected | .stopping _ =>
    acceptedAs (s.enterParkingRamp f.channel)
  | .releasingProve | .releasingOpen => acceptedAs (s.parkToSet f.channel)
  | .fault => if (s.ctl f.channel).driveSound then acceptedAs (s.parkToSet f.channel) else refusedAs s .state
  | .parked | .parkingRamp | .parkingSet => acceptedAs s
  | .unconfigured | .tripped => refusedAs s .state

/-- PARK (R98). -/
def execPark (dt : Nat) (s : State) : Host.Outcome State Fault Refusal :=
  .next ((s.advance dt).serve (hasCode codePark) parkRule)

/-- RELEASE's change (R140): phase PROVE with the prove timer started, or phase OPEN at once for a prove time of 0. -/
def State.startRelease (s : State) (c : Chan) : State :=
  if (s.hoist c).prove = 0 then s.enterOpen c
  else (s.modCtl c fun k => { k with prove := some (s.ms + (s.hoist c).prove) }).enter c .releasingProve

/-- RELEASE's rule (R96, R140). -/
def releaseRule (s : State) (f : Frame) : Reaction :=
  if s.tripLine then refusedAs s .tripActive
  else if s.freeze then refusedAs s .frozen
  else if (s.ctl f.channel).state = .parked then acceptedAs (s.startRelease f.channel)
  else refusedAs s .state

/-- RELEASE (R140). -/
def execRelease (dt : Nat) (s : State) : Host.Outcome State Fault Refusal :=
  .next ((s.advance dt).serve (hasCode codeRelease) releaseRule)

/-! ## SET_DEPTH -/

/-- SET_DEPTH's effect on the record (R44). -/
def Reckoning.given (r : Reckoning) (mm : Nat) : Reckoning :=
  { r with depth := mm * 1000, quality := .doubtful, goodCount := 0, earlyCount := 0 }

/-- SET_DEPTH's rule (R43, R44). -/
def setDepthRule (s : State) (f : Frame) : Reaction :=
  if 2000000 < natAt f.payload 2 4 then refusedAs s .badValue
  else if (s.gate f.channel).out ≠ 0 then refusedAs s .moving
  else acceptedAs (s.modReckon f.channel fun r => r.given (natAt f.payload 2 4))

/-- SET_DEPTH (R44). -/
def execSetDepth (dt : Nat) (s : State) : Host.Outcome State Fault Refusal :=
  .next ((s.advance dt).serve (hasCode codeSetDepth) setDepthRule)

end Sys2Proof.Machine
end

