-- ==== Sys2Proof/Machine/Gate.lean ====
section
/-! DEFINITION. The speed gate: demand (R51 to R53), caps (R54 to R61), clamp, ramp and cap step (R62 to R65), gate
mark and brake command (R67, R69), the DRIVE frame (R66, R68, R70), and the evaluation as one operation (R50) with
what the channel controller does at it (R84, R112, R129, R136). -/

namespace Sys2Proof.Machine

/-! ## Demand -/

/-- The demand of a dispatch frame: its speed when its brake command is RUN, and otherwise 0 (R52). -/
def dispatchDemand (f : Frame) : Int :=
  if byteAt f.payload 2 = BrakeCommand.run.code then intAt f.payload 0 2 * 1000 else 0

/-- The demand by channel state (R51); `src` is the dispatch frame that causes the evaluation, if one does. -/
def State.stateDemand (s : State) (c : Chan) (src : Option Frame) : Int :=
  match (s.ctl c).state with
  | .trafficLive => (src.map dispatchDemand).getD 0
  | .list => s.approachDemand c
  | .injected => s.injectedDemand c
  | _ => 0

/-- The demand of an evaluation: 0 while the freeze is set (R53). -/
def State.demand (s : State) (c : Chan) (src : Option Frame) : Int :=
  if s.freeze then 0 else s.stateDemand c src

/-! ## Caps -/

/-- A braking curve: isqrt(L² + 2 × a_s × distance) (R56, R57, R59). -/
def curve (l aS distance : Nat) : Nat := isqrt (l * l + 2 * aS * distance)

/-- The current-zone term; crawl speed in a closed zone (R55). -/
def State.zoneTerm (s : State) (c : Chan) : Nat :=
  let l := ((zoneAt s.active.entries (s.depthMm c)).map fun z => z.limit (laneOf c)).getD 0
  if l = 0 then (s.hoist c).crawl else l

/-- The zone-ahead curves for down travel: one for the top of every deeper entry (R56). -/
def State.zonesBelow (s : State) (c : Chan) : List Nat :=
  (s.active.entries.filter fun z => decide (s.depthMm c < z.top)).map fun z =>
    curve (z.limit (laneOf c)) (s.hoist c).aS (z.top - s.depthMm c)

/-- The zone-ahead curves for up travel: for every boundary above, into the entry above it (R56). -/
def State.zonesAbove (s : State) (c : Chan) : List Nat :=
  ((s.active.entries.zip s.active.entries.tail).filter fun p => decide (p.2.top < s.depthMm c)).map fun p =>
    curve (p.1.limit (laneOf c)) (s.hoist c).aS (s.depthMm c - p.2.top)

/-- The stop curve toward the bottom stop (R57). -/
def State.stopBelow (s : State) (c : Chan) : Nat :=
  if s.depthMm c < (s.lane c).bottom then curve 0 (s.hoist c).aS ((s.lane c).bottom - s.depthMm c) else 0

/-- The stop curve toward the top stop (R57). -/
def State.stopAbove (s : State) (c : Chan) : Nat :=
  if (s.lane c).top < s.depthMm c then curve 0 (s.hoist c).aS (s.depthMm c - (s.lane c).top) else 0

/-- The gap of a channel's lane in mm (R58). -/
def State.gap (s : State) (c : Chan) : Int :=
  let upper := if isUpper c then c else partnerOf c
  let lower := if isUpper c then partnerOf c else c
  (s.depthMm lower : Int) - ((s.depthMm upper : Int) + ((s.hoist upper).body : Int))

/-- The partner of `c` is moving toward `c` (R59). -/
def State.partnerCloses (s : State) (c : Chan) : Bool :=
  if isUpper c then decide ((s.gate (partnerOf c)).out < 0) else decide (0 < (s.gate (partnerOf c)).out)

/-- The partner's stopping distance in mm (R59). -/
def State.partnerStop (s : State) (c : Chan) : Nat :=
  if s.partnerCloses c then
    let v := (s.gate (partnerOf c)).out.natAbs / 1000
    v * v / (2 * (s.hoist (partnerOf c)).aS)
  else 0

/-- The distance available toward the partner in mm (R59). -/
def State.available (s : State) (c : Chan) : Int :=
  s.gap c - ((s.lane c).margin : Int) - (s.partnerStop c : Int)

/-- The separation term (R58, R59). -/
def State.separation (s : State) (c : Chan) : Nat :=
  if (s.reckon c).quality = .unreferenced ∨ (s.reckon (partnerOf c)).quality = .unreferenced then 0
  else if 0 < s.available c then curve 0 (s.hoist c).aS (s.available c).toNat else 0

/-- The quality term (R60). -/
def State.qualityTerm (s : State) (c : Chan) : List Nat :=
  match (s.reckon c).quality with
  | .good => []
  | .doubtful => [(s.hoist c).doubtful]
  | .lost | .unreferenced => [(s.hoist c).crawl]

/-- The terms of both directions (R55, R60). -/
def State.bothTerms (s : State) (c : Chan) : List Nat :=
  (s.hoist c).driveLimit :: s.zoneTerm c :: s.qualityTerm c

/-- The terms of the down cap (R54 to R60). -/
def State.downTerms (s : State) (c : Chan) : List Nat :=
  s.bothTerms c ++ s.zonesBelow c ++ [s.stopBelow c] ++ (if isUpper c then [s.separation c] else [])

/-- The terms of the up cap (R54 to R60). -/
def State.upTerms (s : State) (c : Chan) : List Nat :=
  s.bothTerms c ++ s.zonesAbove c ++ [s.stopAbove c] ++ (if isUpper c then [] else [s.separation c])

/-- The least of the terms, held to 32,767 (R54). -/
def leastOf (terms : List Nat) : Nat := terms.foldl min Config.maxCap

/-- The down cap of an evaluation, 0 in a forced state (R61). -/
def State.newDownCap (s : State) (c : Chan) : Nat :=
  if (s.ctl c).state.forced then 0 else leastOf (s.downTerms c)

/-- The up cap of an evaluation, 0 in a forced state (R61). -/
def State.newUpCap (s : State) (c : Chan) : Nat :=
  if (s.ctl c).state.forced then 0 else leastOf (s.upTerms c)

/-! ## Clamp, ramp and cap step -/

/-- Hold an internal speed within the caps (R62, R65). -/
def capTo (down up : Nat) (v : Int) : Int := clampInt (-((up * 1000 : Nat) : Int)) ((down * 1000 : Nat) : Int) v

/-- Δt in ms (R63): whole milliseconds of the time base, 1 to 250, and 1 when there was no evaluation before. -/
def State.delta (s : State) (c : Chan) : Nat :=
  match (s.gate c).prevEval with
  | none => 1
  | some t => max 1 (min Config.maxDelta (s.ms - t / Config.tick))

/-- `v` brought toward 0, to no less than `floor`, by at most `step`: the magnitude falls, the sign stays. -/
def lowerBy (v : Int) (floor step : Nat) : Int := v.sign * ((max floor (v.natAbs - step) : Nat) : Int)

/-- The ramp (R64): `growth` is a_r × Δt and `fall` is a_s × Δt. -/
def ramp (p t : Int) (growth fall : Nat) : Int :=
  if t = 0 ∨ t.sign = -p.sign then lowerBy p 0 fall
  else if t.natAbs ≤ p.natAbs then lowerBy p t.natAbs fall
  else t.sign * ((min t.natAbs (p.natAbs + growth) : Nat) : Int)

/-! ## The evaluation -/

/-- What one evaluation finds (R50). -/
structure Evaluation where
  downCap : Nat
  upCap : Nat
  /-- The demand d. -/
  demand : Int
  /-- The target t. -/
  target : Int
  /-- The ramped value r. -/
  ramped : Int
  /-- The new output n. -/
  output : Int
  /-- The clamp changed the demand or the cap step the ramped value (R67). -/
  limited : Bool
  mark : GateMark
  brake : BrakeCommand
  deriving DecidableEq, Repr

/-- The gate mark (R67). -/
def gateMark (forced limited ramped : Bool) : GateMark :=
  if forced then .forced else if limited then .clamped else if ramped then .ramped else .passed

/-- Stages 1 to 6 of an evaluation (R50), from the state as it stands. -/
def State.evaluation (s : State) (c : Chan) (src : Option Frame) : Evaluation :=
  let forced := (s.ctl c).state.forced
  let down := s.newDownCap c
  let up := s.newUpCap c
  let d := if forced then 0 else s.demand c src
  let t := capTo down up d
  let r := if forced then 0
    else ramp (s.gate c).out t ((s.hoist c).aR * s.delta c) ((s.hoist c).aS * s.delta c)
  let n := capTo down up r
  let limited := decide (t ≠ d) || decide (n ≠ r)
  { downCap := down, upCap := up, demand := d, target := t, ramped := r, output := n, limited := limited,
    mark := gateMark (forced || s.tripLine) limited (decide (r ≠ t)),
    brake := if s.tripLine then .set else (s.ctl c).state.brakeCommand }

/-- The DRIVE frame of an evaluation: the dispatch frame rewritten (R70), or an originated one (R68). -/
def State.driveFrame (s : State) (c : Chan) (src : Option Frame) (e : Evaluation) : Frame :=
  match src with
  | some f =>
    Frame.sealed { f with payload := drivePayload (e.output.tdiv 1000) e.brake e.mark originDispatch }
  | none =>
    Frame.sealed
      { dest := (s.hoist c).addr, src := s.supervisor, kind := kindDrive, tag := 0x00#8,
        payload := drivePayload (e.output.tdiv 1000) e.brake e.mark originSupervisor, check := 0x00#8 }

/-- Notices of forming the demand: BRAKE_BY_TRAFFIC (R52, R53) and SLACK_ROPE (R128). -/
def State.demandNotices (s : State) (c : Chan) (src : Option Frame) : State :=
  match (s.ctl c).state, src with
  | .trafficLive, some f => if byteAt f.payload 2 = BrakeCommand.run.code then s else s.raise c .brakeByTraffic
  | .injected, _ => if s.slack c then s.raise c .slackRope else s
  | _, _ => s

/-- The gate keeps the results (R66), and an output that reaches 0 sets the zero moment (R84). -/
def State.storeEvaluation (s : State) (c : Chan) (e : Evaluation) : State :=
  let reached := decide ((s.gate c).out ≠ 0) && decide (e.output = 0)
  let s := s.modGate c fun _ => ⟨e.output, some s.now, e.downCap, e.upCap⟩
  if reached then s.modCtl c fun k => { k with zeroMoment := s.moment } else s

/-- In PARKING phase RAMP the evaluation that brings the output to 0 starts the brake confirm timer (R136);
`before` is the output before it. -/
def State.rampTimer (s : State) (c : Chan) (before : Int) : State :=
  if (s.ctl c).state = .parkingRamp ∧ before ≠ 0 ∧ (s.gate c).out = 0 then s.startBrake c else s

/-- RESPONSE_LIMITED is raised once for an injection (R129). -/
def State.noteLimited (s : State) (c : Chan) (limited : Bool) : State :=
  if (s.ctl c).state = .injected ∧ limited = true ∧ (s.ctl c).limited = false then
    (s.raise c .responseLimited).modCtl c fun k => { k with limited := true }
  else s

/-- Each evaluation in LIST sets the evaluated mark, and arrival is tested after it (R111, R112). -/
def State.listAfter (s : State) (c : Chan) : State :=
  if (s.ctl c).state = .list then (s.modCtl c fun k => { k with evaluated := true }).tryArrive c else s

/-- One evaluation of the gate for a channel (R50). -/
def State.evaluate (s : State) (c : Chan) (src : Option Frame) : State :=
  let e := s.evaluation c src
  let f := s.driveFrame c src e
  let before := (s.gate c).out
  ((((((s.demandNotices c src).storeEvaluation c e).rampTimer c before).settleWatch c).noteLimited c e.limited).handDrive
    c f).listAfter c

end Sys2Proof.Machine
end

