-- ==== Sys2Proof/Machine/Reckoner.lean ====
section
/-! DEFINITION. The depth reckoner: tooth events (R25 to R32) and landmark events (R33 to R40). -/

namespace Sys2Proof.Machine

/-- Rope stretch in ppm (R30). -/
def stretch (load compliance : Nat) : Nat := load * compliance / 1000

/-- The effective pitch in µm (R30). -/
def State.effectivePitch (s : State) (c : Chan) : Nat :=
  (s.hoist c).pitch + (s.hoist c).pitch * stretch (s.reckon c).load (s.hoist c).compliance / 1000000

/-- The tooth's interval I in µs: from the last tooth time, saturating at 10,000,000, at least 1 (R25). -/
def State.toothInterval (s : State) (c : Chan) : Nat :=
  match (s.reckon c).lastTooth with
  | none => Config.maxInterval
  | some t => max 1 (min Config.maxInterval (s.now - t))

/-- The newest `nr` intervals of a history, oldest first (R27). -/
def newest (history : List Nat) (nr : Nat) : List Nat := history.drop (history.length - nr)

/-- The lower bound of the early-tooth window (R27). -/
def lowerBound (history : List Nat) (nr w : Nat) : Nat :=
  let p := (newest history nr).sum / nr
  p - p * w / 64

/-- A tooth in the last direction is early (R27). -/
def State.toothIsEarly (s : State) (c : Chan) (i : Nat) : Bool :=
  decide ((s.hoist c).nr ≤ (s.reckon c).history.length)
    && decide (i < lowerBound (s.reckon c).history (s.hoist c).nr (s.hoist c).window)

/-- Enter an interval as the newest of at most 8 (R32). -/
def enterInterval (history : List Nat) (i : Nat) : List Nat :=
  let h := history ++ [i]
  h.drop (h.length - Config.historyDepth)

/-- Where a tooth carries the depth, before the limits (R30). -/
def State.toothTarget (s : State) (c : Chan) (dir : Direction) : Int :=
  match dir with
  | .down => ((s.reckon c).depth : Int) + (s.effectivePitch c : Int)
  | .up => ((s.reckon c).depth : Int) - (s.effectivePitch c : Int)

/-- Limit a depth to 0 to 2,000,000,000 µm (R31, R36). -/
def limitDepth (d : Int) : Nat := (clampInt 0 (Config.maxDepth : Int) d).toNat

/-- A depth that leaves the range (R31). -/
def outOfRange (d : Int) : Bool := decide (d < 0) || decide ((Config.maxDepth : Int) < d)

/-- Quality LOST with DEPTH_LOST (R29, R31, R39). -/
def State.loseDepth (s : State) (c : Chan) : State :=
  (s.modReckon c fun r => { r with quality := .lost, goodCount := 0 }).raise c .depthLost

/-- A tooth is applied (R30, R31): `history` is the interval history it leaves. It restarts a running stall watch,
whose length is read again (R45). -/
def State.applyTooth (s : State) (c : Chan) (dir : Direction) (history : List Nat) : State :=
  let target := s.toothTarget c dir
  let s := s.modReckon c fun r =>
    { r with depth := limitDepth target, history := history, lastTooth := some s.now, lastDir := some dir,
             earlyCount := 0 }
  let s := s.modCtl c fun k =>
    { k with watch := k.watch.map fun _ => ⟨s.now, (s.hoist c).toothHold⟩ }
  if outOfRange target then s.loseDepth c else s

/-- TOOTH_EARLY with the count in the detail record (R28). -/
def State.raiseEarly (s : State) (c : Chan) (count : Nat) : State :=
  s.raiseDetail c .toothEarly fun d => { d with earlyTeeth := some count }

/-- An early tooth (R28, R29): the first and second in a row are discarded, the third is applied, empties the
history and makes the depth LOST. -/
def State.earlyTooth (s : State) (c : Chan) (dir : Direction) : State :=
  let n := (s.reckon c).earlyCount
  if n < 2 then (s.raiseEarly c (n + 1)).modReckon c fun r => { r with earlyCount := n + 1 }
  else ((s.raiseEarly c 3).applyTooth c dir []).loseDepth c

/-- A tooth event (R25 to R32). -/
def State.tooth (s : State) (c : Chan) (dir : Direction) : State :=
  let i := s.toothInterval c
  if (s.reckon c).lastDir ≠ some dir then s.applyTooth c dir (enterInterval [] i)
  else if s.toothIsEarly c i then s.earlyTooth c dir
  else s.applyTooth c dir (enterInterval (s.reckon c).history i)

/-! ## Landmark events -/

/-- The reference depth R in µm (R34). -/
def referenceDepth (m : Landmark) : Option Direction → Int
  | some .down => (m.depth : Int) + (m.halfWidth : Int)
  | some .up => (m.depth : Int) - (m.halfWidth : Int)
  | none => (m.depth : Int)

/-- The speed estimate v_est in µm/s (R35). -/
def State.speedEstimate (s : State) (c : Chan) : Int :=
  match (s.reckon c).history.getLast? with
  | none => 0
  | some i =>
    let v : Int := ((s.effectivePitch c * 1000000 / i : Nat) : Int)
    match (s.reckon c).lastDir with
    | some .down => v
    | some .up => -v
    | none => 0

/-- The travel since the switch edge in µm, rounded toward zero (R35). -/
def State.travel (s : State) (c : Chan) (age : Nat) : Int := (s.speedEstimate c * (age : Int)).tdiv 1000000

/-- The landmark error e in µm (R35). -/
def State.landmarkError (s : State) (c : Chan) (m : Landmark) (age : Nat) : Int :=
  referenceDepth m (s.reckon c).lastDir - (((s.reckon c).depth : Int) - s.travel c age)

/-- Snap the depth by the error, within the range (R36). -/
def Reckoning.snap (r : Reckoning) (e : Int) : Reckoning := { r with depth := limitDepth ((r.depth : Int) + e) }

/-- LANDMARK_ERROR with the error in mm and the number (R38, R39). -/
def State.raiseLandmarkError (s : State) (c : Chan) (n : Fin 64) (e : Int) : State :=
  s.raiseDetail c .landmarkError fun d => { d with landmark := some (e.tdiv 1000, n.val) }

/-- The good-landmark count and quality after an error within the snap limit (R37). -/
def Reckoning.countGood (r : Reckoning) : Reckoning :=
  let k := min 2 (r.goodCount + 1)
  { r with goodCount := k, quality := if r.quality = .doubtful ∧ k = 2 then .good else r.quality }

/-- The outcome of a landmark error by the quality before the event (R36 to R39). -/
def State.takeError (s : State) (c : Chan) (n : Fin 64) (e : Int) : State :=
  match (s.reckon c).quality with
  | .unreferenced | .lost =>
    s.modReckon c fun r => { r.snap e with quality := .doubtful, goodCount := 0 }
  | .good | .doubtful =>
    if e.natAbs ≤ (s.hoist c).snap * 1000 then s.modReckon c fun r => (r.snap e).countGood
    else if e.natAbs ≤ (s.hoist c).doubt * 1000 then
      (s.modReckon c fun r => { r.snap e with quality := .doubtful, goodCount := 0 }).raiseLandmarkError c n e
    else (s.raiseLandmarkError c n e).loseDepth c

/-- An attributed landmark event (R34 to R40), offered to the list last. -/
def State.landmark (s : State) (c : Chan) (n : Fin 64) (m : Landmark) (age : Nat) : State :=
  let e := s.landmarkError c m age
  (((s.takeError c n e).modReckon c fun r =>
    { r with lastError := some (e.tdiv 1000), lastNumber := some n })).offerLandmark c n (e.tdiv 1000)

/-- The channel, number and entry a LANDMARK payload is attributed to (R33); `none` when it is unknown. -/
def State.attribute (s : State) (payload : List Byte) : Option (Chan × Fin 64 × Landmark) :=
  if payload.length = 4 then
    match chanOf (byteAt payload 1).toNat, landmarkOf (byteAt payload 0).toNat with
    | some c, some n =>
      let m := s.active.landmarks[n]
      if m.present = true ∧ m.lane = laneOf c then some (c, n, m) else none
    | _, _ => none
  else none

/-- LANDMARK_UNKNOWN on the supervisor: the number carried with an error of 0, the field left alone when LEN is
not 4 (R33, R182). -/
def State.unknownLandmark (s : State) (payload : List Byte) : State :=
  let n := s.supNotes.add SupKind.landmarkUnknown.bit
  if payload.length = 4 then
    { s with supNotes := { n with detail := { n.detail with landmark := some (0, (byteAt payload 0).toNat) } } }
  else { s with supNotes := n }

/-- The reckoner reads a LANDMARK frame (R33). -/
def State.readLandmark (s : State) (f : Frame) : State :=
  match s.attribute f.payload with
  | some (c, n, m) => s.landmark c n m (natAt f.payload 2 2)
  | none => s.unknownLandmark f.payload

/-! ## The command TOOTH_EVENT -/

/-- TOOTH_EVENT (R25, R23): taken while the ACTIVE bank holds hoist records and no full reset is in progress. -/
def execToothEvent (dt : Nat) (c : Chan) (tbHigh : Bool) (s : State) : Host.Outcome State Fault Refusal :=
  let s := s.advance dt
  .next (if s.awake && s.configured c then s.tooth c (if tbHigh then .down else .up) else s)

end Sys2Proof.Machine
end

