-- ==== Sys2Proof/Machine/Classifier.lean ====
section
/-! DEFINITION. The frame classifier (R166, R167): requests into the queue (R173), dispatch DRIVE frames to the gate
(R48), FEEDBACK read, taken by the controller and annotated (R83, R94, R168, R169), LANDMARK frames to the
reckoner, and passing frames across. -/

namespace Sys2Proof.Machine

/-! ## Upstream -/

/-- A REQUEST joins the request queue, or is answered QUEUE_FULL, or is discarded (R173). -/
def State.enqueueRequest (s : State) (f : Frame) : State :=
  if s.requests.length < Config.requestDepth then { s with requests := s.requests ++ [f] }
  else if s.upSlots < Config.txDepth then s.sendReply .reply (s.replyTo f .queueFull [])
  else s

/-- A dispatch DRIVE frame reaches a channel's gate (R48): of LEN 5 in TRAFFIC it is evaluated, returning a LAPSED
channel to LIVE (R88) and restarting the demand timer (R81); in every other case it is consumed. -/
def State.deliverDrive (s : State) (c : Chan) (f : Frame) : State :=
  if f.len = 5 ∧ (s.ctl c).state.isTraffic = true then
    (((s.modCtl c fun k => { k with emission := none }).enter c .trafficLive).restartDemand c).evaluate c (some f)
  else s

/-- The disposal of a frame taken from port U (R166). -/
def State.disposeUpstream (s : State) (f : Frame) : State :=
  if f.dest = 0x00#8 ∨ f.src = 0x00#8 then s
  else if f.dest = s.supervisor then if f.kind = kindRequest then s.enqueueRequest f else s
  else if f.dest = 0xFF#8 ∧ f.kind = kindRequest then (s.enqueueRequest f).passDown f
  else
    match s.driveAt f.dest with
    | some c => if f.kind = kindDrive then s.deliverDrive c f else s.passDown f
    | none => s.passDown f

/-! ## Downstream -/

/-- The feedback record a FEEDBACK payload gives, read at a moment (R83). -/
def readFeedback (payload : List Byte) (m : Moment) : Feedback :=
  ⟨intAt payload 0 2, natAt payload 2 2, decodeDrive (byteAt payload 4), decodeBrake (byteAt payload 5), m⟩

/-- A drive fault reaches a channel in these states (R94). -/
def ChanState.takesDriveFault : ChanState → Bool
  | .unconfigured | .tripped | .fault => false
  | _ => true

/-- What the controller does with a frame that reports no drive fault, by the channel state at the read: stop
completion (R91), rest in RAMP (R136), park and release confirmations (R137, R141), arrival (R112). -/
def State.confirmations (s : State) (c : Chan) (r : Feedback) : State :=
  match (s.ctl c).state with
  | .stopping _ => s.tryStop c
  | .parkingRamp => s.tryRampRest c
  | .parkingSet => if r.brake = .set then (s.enterParked c).raise c .parked else s
  | .releasingOpen =>
    if r.brake = .released then ((s.modCtl c fun k => { k with brake := none }).enter c .held).raise c .released
    else s
  | .list => s.tryArrive c
  | _ => s

/-- The controller takes a FEEDBACK frame (R83, R94, R168): the record and the load are written, a drive fault
comes before every confirmation, and the feedback timer is restarted (R82). -/
def State.takeFeedback (s : State) (c : Chan) (payload : List Byte) : State :=
  let r := readFeedback payload s.moment
  let s := (s.modCtl c fun k => { k with record := some r }).modReckon c fun q => { q with load := r.load }
  let s :=
    if r.drive = .fault then
      if (s.ctl c).state.takesDriveFault then (s.raise c .driveFault).enterFault c else s
    else s.confirmations c r
  s.restartFeedback c

/-- The 11 bytes of the annotation (R169). -/
def State.annotation (s : State) (c : Chan) : List Byte :=
  natBytes 4 (s.depthMm c) ++ natBytes 1 (s.reckon c).quality.code ++ [(s.ctl c).state.byte]
    ++ natBytes 2 (s.gate c).downCap ++ natBytes 2 (s.gate c).upCap ++ natBytes 1 s.attention

/-- The annotated form of a read FEEDBACK frame (R169). -/
def State.annotate (s : State) (c : Chan) (f : Frame) : Frame :=
  Frame.sealed { f with payload := f.payload ++ s.annotation c }

/-- Disposal by DEST: consumed for the supervisor, otherwise handed to port U (R167). -/
def State.forwardUp (s : State) (f : Frame) : State := if f.dest = s.supervisor then s else s.passUp f

/-- The disposal of a frame taken from port D (R167, R168). -/
def State.disposeDownstream (s : State) (f : Frame) : State :=
  if f.dest = 0x00#8 ∨ f.src = 0x00#8 then s
  else if f.kind = kindFeedback then
    match s.driveAt f.src with
    | some c =>
      if f.len = 6 then
        let s := s.takeFeedback c f.payload
        s.forwardUp (s.annotate c f)
      else (s.raisePort .badFeedback .d).forwardUp f
    | none => s.forwardUp f
  else if f.kind = kindLandmark ∧ f.src = s.active.shaft.signalling then (s.readLandmark f).forwardUp f
  else s.forwardUp f

/-! ## The commands -/

/-- CLASSIFY_UPSTREAM_FRAME (R166): the oldest frame of port U's receive queue is taken; nothing while RESET_N is
asserted, when the queue is empty. -/
def execClassifyUpstreamFrame (dt : Nat) (s : State) : Host.Outcome State Fault Refusal :=
  let s := s.advance dt
  .next (match s.heldInReset, s.portU.rx with
    | false, f :: rest => (s.modPort .u fun q => { q with rx := rest }).disposeUpstream f
    | _, _ => s)

/-- CLASSIFY_DOWNSTREAM_FRAME (R167): the oldest frame of port D's receive queue is taken. -/
def execClassifyDownstreamFrame (dt : Nat) (s : State) : Host.Outcome State Fault Refusal :=
  let s := s.advance dt
  .next (match s.heldInReset, s.portD.rx with
    | false, f :: rest => (s.modPort .d fun q => { q with rx := rest }).disposeDownstream f
    | _, _ => s)

end Sys2Proof.Machine
end

