-- ==== Sys2Proof/Machine/ListRequests.lean ====
section
/-! DEFINITION. LIST_WRITE (R104, R105) and LIST_READ (R106). -/

namespace Sys2Proof.Machine

/-- How many descriptors a LIST_WRITE of a matching LEN carries. -/
def carriedDescriptors (payload : List Byte) : Nat := (payload.length - 2) / 13

/-- One of `count` consecutive indices from `first` is guarded (R105). -/
def State.anyGuarded (s : State) (first count : Nat) : Bool :=
  (List.range count).any fun k => if h : first + k < 256 then s.guarded ⟨first + k, h⟩ else false

/-- LIST_WRITE's rule (R104). -/
def listWriteRule (s : State) (f : Frame) : Reaction :=
  let first := (byteAt f.payload 1).toNat
  let count := carriedDescriptors f.payload
  if 255 < first + count - 1 then refusedAs s .badIndex
  else
    match decodeAll decodeDescriptor (chunks 13 count (f.payload.drop 2)) with
    | none => refusedAs s .badValue
    | some ds =>
      if s.anyGuarded first count then refusedAs s .inUse
      else acceptedAs { s with descs := writeRun s.descs first ds }

/-- LIST_WRITE (R104). -/
def execListWrite (dt : Nat) (s : State) : Host.Outcome State Fault Refusal :=
  .next ((s.advance dt).serve (hasCode codeListWrite) listWriteRule)

/-- LIST_READ's rule (R106). -/
def listReadRule (s : State) (f : Frame) : Reaction :=
  let first := (byteAt f.payload 1).toNat
  let count := (byteAt f.payload 2).toNat
  if count = 0 ∨ 3 < count ∨ 255 < first + count - 1 then refusedAs s .badIndex
  else ⟨s, .ok, [BitVec.ofNat 8 first, BitVec.ofNat 8 count]
    ++ ((readRun s.descs first count).map Descriptor.encode).flatten⟩

/-- LIST_READ (R106). -/
def execListRead (dt : Nat) (s : State) : Host.Outcome State Fault Refusal :=
  .next ((s.advance dt).serve (hasCode codeListRead) listReadRule)

end Sys2Proof.Machine
end

