-- ==== Sys2Proof/Machine/Ports.lean ====
section
/-! DEFINITION. The two line ports: reception byte by byte (R156 to R159), the stuck line (R160, R161) and
transmission (R162). The line's levels are inputs: a command says that a byte, a framing error or a level of a
given length has been seen (log 9). -/

namespace Sys2Proof.Machine

/-- The port takes line events: LIVE and not held in reset (R151, R155, R161). -/
def State.receives (s : State) (p : PortId) : Bool := s.portOpen p

/-- How many bytes the frame in reception has in all, once its LEN byte is there: header, payload and CHECK. -/
def frameSize (bytes : List Byte) : Nat := (byteAt bytes 4).toNat + 6

/-- The next byte of the frame in reception is its LEN. -/
def atLen (bytes : List Byte) : Bool := bytes.length == 4

/-- The next byte of the frame in reception is its CHECK (R156). -/
def atCheck (bytes : List Byte) : Bool := decide (5 ≤ bytes.length) && bytes.length + 1 == frameSize bytes

/-- The frame that header and payload bytes and a CHECK byte make. -/
def frameOf (bytes : List Byte) (check : Byte) : Frame :=
  ⟨byteAt bytes 0, byteAt bytes 1, byteAt bytes 2, byteAt bytes 3, bytes.drop 5, check⟩

/-- Drop the frame in reception, raise LINE_CHECK with the port, and hunt (R156, R157). -/
def State.lineCheck (s : State) (p : PortId) : State :=
  (s.modPort p fun q => { q with receiving := [], hunting := true }).raisePort .lineCheck p

/-- A checked frame is offered to the receive queue (R159). -/
def State.offerRx (s : State) (p : PortId) (f : Frame) : State :=
  if (s.port p).rx.length < Config.rxDepth then s.modPort p fun q => { q with rx := q.rx ++ [f] }
  else s.raisePort .rxOverrun p

/-- The CHECK byte is received (R157). -/
def State.finishFrame (s : State) (p : PortId) (check : Byte) : State :=
  let f := frameOf (s.port p).receiving check
  if crc8 f.body = check then (s.modPort p fun q => { q with receiving := [] }).offerRx p f else s.lineCheck p

/-- A byte with a good stop bit (R156): ignored while hunting; otherwise the DEST of a new frame, or the next byte
of the frame in reception, of which LEN above 48 and CHECK have their own effects. -/
def State.receiveByte (s : State) (p : PortId) (b : Byte) : State :=
  if (s.port p).hunting then s
  else if atCheck (s.port p).receiving then s.finishFrame p b
  else if atLen (s.port p).receiving && decide (Config.maxPayload < b.toNat) then s.lineCheck p
  else s.modPort p fun q => { q with receiving := q.receiving ++ [b] }

/-- FRAME_BYTE_RECEIVED (R156). -/
def execFrameByteReceived (dt : Nat) (p : PortId) (b : Byte) (s : State) : Host.Outcome State Fault Refusal :=
  let s := s.advance dt
  .next (if s.receives p then s.receiveByte p b else s)

/-- FRAME_COMPLETE (R157): the byte is the CHECK of the frame in reception. -/
def execFrameComplete (dt : Nat) (p : PortId) (check : Byte) (s : State) : Host.Outcome State Fault Refusal :=
  let s := s.advance dt
  .next (if s.receives p && atCheck (s.port p).receiving then s.receiveByte p check else s)

/-- FRAME_LEN_EXCEEDED (R156): the byte is the LEN of the frame in reception and above 48. -/
def execFrameLenExceeded (dt : Nat) (p : PortId) (len : Byte) (s : State) : Host.Outcome State Fault Refusal :=
  let s := s.advance dt
  .next (if s.receives p && atLen (s.port p).receiving && decide (Config.maxPayload < len.toNat)
    then s.receiveByte p len else s)

/-- FRAMING_ERROR (R156): with a frame in reception LINE_CHECK is raised; without one nothing is. -/
def execFramingError (dt : Nat) (p : PortId) (s : State) : Host.Outcome State Fault Refusal :=
  let s := s.advance dt
  .next (if s.receives p then
      if (s.port p).receiving = [] then s.modPort p fun q => { q with hunting := true } else s.lineCheck p
    else s)

/-- FRAME_CUT (R158): more than 200 µs of idle level inside a frame; the hunting mark is not set. -/
def execFrameCut (dt : Nat) (p : PortId) (idle : Nat) (s : State) : Host.Outcome State Fault Refusal :=
  let s := s.advance dt
  .next (if s.receives p ∧ (s.port p).receiving ≠ [] ∧ Config.idleGap < idle then
      (s.modPort p fun q => { q with receiving := [] }).raisePort .frameCut p
    else s)

/-- HUNT_IDLE_CLEAR (R156): more than 200 µs of idle level clears the hunting mark. -/
def execHuntIdleClear (dt : Nat) (p : PortId) (idle : Nat) (s : State) : Host.Outcome State Fault Refusal :=
  let s := s.advance dt
  .next (if s.receives p ∧ Config.idleGap < idle then s.modPort p fun q => { q with hunting := false } else s)

/-- The break that counts: not longer ago than the reset that left the port LIVE (R155, R160). -/
def State.breakTime (s : State) (p : PortId) (held : Nat) : Nat := min held (s.now - (s.port p).liveSince)

/-- LINE_STUCK (R160): the frame in reception, both queues and the frame in transmission are lost, the hunting
mark is cleared, and port U keeps a reply reservation. -/
def execLineStuck (dt : Nat) (p : PortId) (held : Nat) (s : State) : Host.Outcome State Fault Refusal :=
  let s := s.advance dt
  .next (if s.receives p ∧ Config.breakTime < s.breakTime p held then
      (s.modPort p fun q =>
        { q with live := false, rx := [], tx := [], receiving := [], transmitting := none, hunting := false }).raisePort
        .lineStuck p
    else s)

/-- LINE_FREED (R161): a STUCK port whose receive line leaves break is LIVE. -/
def execLineFreed (dt : Nat) (p : PortId) (s : State) : Host.Outcome State Fault Refusal :=
  let s := s.advance dt
  .next (if (s.port p).live = false ∧ s.heldInReset = false then
      (s.modPort p fun q => { q with live := true }).raisePort .lineFreed p
    else s)

/-- FRAME_TRANSMIT_START (R162): the oldest frame leaves the queue and is the frame in transmission. -/
def execFrameTransmitStart (dt : Nat) (p : PortId) (s : State) : Host.Outcome State Fault Refusal :=
  let s := s.advance dt
  .next (match s.portOpen p, (s.port p).transmitting, (s.port p).tx with
    | true, none, e :: rest => s.modPort p fun q => { q with tx := rest, transmitting := some e }
    | _, _, _ => s)

/-- FRAME_TRANSMIT_END (R162): the last byte of the frame in transmission has left the port. -/
def execFrameTransmitEnd (dt : Nat) (p : PortId) (s : State) : Host.Outcome State Fault Refusal :=
  let s := s.advance dt
  .next (s.modPort p fun q => { q with transmitting := none })

end Sys2Proof.Machine
end

