-- ==== Sys2Proof/Machine/Resets.lean ====
section
/-! DEFINITION. The hard lines: TRIP_N (R147, R148, R150), RESET_N with its ring and full reset (R151, R152), a
RESET request taking place (R153), and power-on reset (R154). -/

namespace Sys2Proof.Machine

/-! ## The trip line -/

/-- An assertion event (R147): every channel enters TRIPPED, TRIP_ASSERTED is raised once. -/
def State.trip (s : State) : State := (allChans.foldl State.tripChannel s).raiseSup .tripAsserted

/-- At the completion of a power-on or full reset TRIP_N is sampled: an asserted line is taken as an assertion
(R150). -/
def State.sampleTrip (s : State) : State := if s.tripLine then s.trip else s

/-- TRIP_ASSERTION (R147): the level is kept; no event is taken while a full reset is in progress (R150). -/
def execTripAssertion (dt : Nat) (s : State) : Host.Outcome State Fault Refusal :=
  let s := s.advance dt
  .next (if s.tripLine then s
    else if s.awake then ({ s with tripLine := true } : State).trip else { s with tripLine := true })

/-- TRIP_NEGATION (R148): TRIP_NEGATED is raised and the channels stay TRIPPED. -/
def execTripNegation (dt : Nat) (s : State) : Host.Outcome State Fault Refusal :=
  let s := s.advance dt
  .next (if s.tripLine = false then s
    else if s.awake then ({ s with tripLine := false } : State).raiseSup .tripNegated else { s with tripLine := false })

/-! ## What a reset does to the ports, the engine and the channels -/

/-- Both ports empty and LIVE, no reservation (R155). -/
def State.freshPorts (s : State) : State :=
  { s with portU := .initial s.now, portD := .initial s.now, reserved := false }

/-- The request queue is emptied, the activation-in-progress and reset-pending marks are cleared (R172). -/
def State.clearEngine (s : State) : State := { s with requests := [], activation := none, resetPending := none }

/-- A port held in reset (R151): its queues are emptied, a frame leaving is cut off, one coming in is discarded. -/
def Port.hold (q : Port) : Port := { q with rx := [], tx := [], receiving := [], transmitting := none }

/-- The effects of a ring reset (R151): channels, reckoning, gate, freeze, notices and straps stay. -/
def State.ringReset (s : State) : State :=
  (({ s.freshPorts.clearEngine with resetLine := .negated } : State).raiseSup .resetDone)

/-- A full reset on a reckoning record (R22): the depth stays, a referenced quality becomes LOST. -/
def Reckoning.fullReset (r : Reckoning) : Reckoning :=
  { Reckoning.initial with
    depth := r.depth, quality := if r.quality = .unreferenced then .unreferenced else .lost }

/-- The beginning of a full reset on one channel (R22, R47, R77). -/
def State.fullResetChannel (s : State) (c : Chan) : State :=
  s.modChan c fun ch =>
    { ch with reckon := ch.reckon.fullReset, gate := .initial,
              ctl := .initial (if s.configured c then .parkingSet else .unconfigured) s.moment }

/-- The beginning of a full reset (R152): channels, freeze and request engine take their values; the tables, the
shadow-differs mark and descriptor memory are kept. -/
def State.beginFullReset (s : State) : State :=
  { (allChans.foldl State.fullResetChannel s).clearEngine with freeze := false }

/-- The release on one channel (R77): the zero moment is now, and a channel in PARKING starts its emission,
feedback and brake confirm timers with their full lengths. -/
def State.releaseChannel (s : State) (c : Chan) : State :=
  let s := s.modCtl c fun k => { k with zeroMoment := s.moment }
  if (s.ctl c).state = .parkingSet then ((s.restartEmission c).restartFeedback c).startBrake c else s

/-- Every notice source emptied (R185). -/
def State.clearNotices (s : State) : State :=
  allChans.foldl (fun t c => t.modChan c fun ch => { ch with notes := .empty }) { s with supNotes := .empty }

/-- The completion of a full reset (R152): straps sampled, ports LIVE, timers started, notices emptied, RESET_DONE,
then the trip line is sampled (R150). -/
def State.completeFullReset (s : State) (straps : BitVec 4) : State :=
  let s := { s.freshPorts with straps := straps, resetLine := .negated }
  (((allChans.foldl State.releaseChannel s).clearNotices).raiseSup .resetDone).sampleTrip

/-! ## The reset line -/

/-- RESET_N_ASSERT (R151): both ports are held, an activation is abandoned with its reservation (R17, R177), a
pending RESET is removed (R153, R178). -/
def execResetNAssert (dt : Nat) (s : State) : Host.Outcome State Fault Refusal :=
  let s := s.advance dt
  .next (if s.resetLine = .negated then
      { s with resetLine := .asserted s.now, portU := s.portU.hold, portD := s.portD.hold, reserved := false,
               activation := none, resetPending := none }
    else s)

/-- RING_RESET (R151): RESET_N is released less than 20 ms after its assertion. -/
def execRingReset (dt : Nat) (s : State) : Host.Outcome State Fault Refusal :=
  let s := s.advance dt
  .next (match s.resetLine with
    | .asserted t => if s.now - t < Config.fullResetTime then s.ringReset else s
    | _ => s)

/-- FULL_RESET_BEGIN (R152): RESET_N has been held asserted for 20 ms. -/
def execFullResetBegin (dt : Nat) (s : State) : Host.Outcome State Fault Refusal :=
  let s := s.advance dt
  .next (match s.resetLine with
    | .asserted t =>
      if Config.fullResetTime ≤ s.now - t then { s.beginFullReset with resetLine := .fullReset } else s
    | _ => s)

/-- FULL_RESET_COMPLETE (R152): RESET_N is released after a full reset has begun. -/
def execFullResetComplete (dt : Nat) (straps : BitVec 4) (s : State) : Host.Outcome State Fault Refusal :=
  let s := s.advance dt
  .next (if s.resetLine = .fullReset then s.completeFullReset straps else s)

/-! ## The RESET request takes place -/

/-- The reply to an accepted RESET is no longer in port U: sent, removed, cut off or discarded (R153, R161). -/
def State.resetReplyGone (s : State) : Bool :=
  s.portU.tx.all (fun e => e.kind != .resetReply)
    && ((s.portU.transmitting.map fun e => e.kind != .resetReply).getD true)

/-- RESET_TAKES_PLACE (R153): a ring reset, or a full reset that begins and completes at this moment. -/
def execResetTakesPlace (dt : Nat) (straps : BitVec 4) (s : State) : Host.Outcome State Fault Refusal :=
  let s := s.advance dt
  .next (match s.resetPending, s.resetReplyGone with
    | some .ring, true => s.ringReset
    | some .full, true => s.beginFullReset.completeFullReset straps
    | _, _ => s)

/-! ## Power-on -/

/-- POWER_ON_RESET (R154): every block takes its power-on values; the clock, the level of TRIP_N and the waiting
commands are no part of the part's power-on values (log 8). -/
def execPowerOnReset (dt : Nat) (straps : BitVec 4) (s : State) : Host.Outcome State Fault Refusal :=
  let s := s.advance dt
  .next ({ State.reset with
    pending := s.pending, now := s.now, serial := s.serial, straps := straps, tripLine := s.tripLine,
    chans := .fill (.powerOn s.moment), portU := .initial s.now, portD := .initial s.now } : State).sampleTrip

end Sys2Proof.Machine
end

