-- ==== Sys2Proof/Machine/SupervisorRequests.lean ====
section
/-! DEFINITION. The requests on the supervisor: STATUS (R180), FETCH_NOTICES (R183), QUIESCE (R144, R145), THAW
(R146), CLEAR_TRIP (R149) and the taking of RESET (R153, R178). -/

namespace Sys2Proof.Machine

/-! ## STATUS -/

/-- One channel's 11 bytes of a STATUS reply (section 8.7). -/
def State.statusChannel (s : State) (c : Chan) : List Byte :=
  let r := s.reckon c
  let k := s.ctl c
  let q := r.quality.code
  [k.state.byte,
   flagsByte [decide (q % 2 = 1), decide (2 ≤ q), k.current.isSome, k.slot.isSome, r.lastNumber.isSome]]
    ++ natBytes 3 r.depthMm ++ intBytes 2 ((s.gate c).out.tdiv 1000)
    ++ intBytes 2 (clampInt (-32768) 32767 (r.lastError.getD 0))
    ++ natBytes 1 ((r.lastNumber.map Fin.val).getD 0) ++ natBytes 1 ((k.current.map Fin.val).getD 0)

/-- The data of a STATUS reply from payload offset 2 (section 8.7). -/
def State.statusData (s : State) : List Byte :=
  [s.statusFlags, s.supervisor]
    ++ s.statusChannel .c0 ++ s.statusChannel .c1 ++ s.statusChannel .c2 ++ s.statusChannel .c3

/-- STATUS's rule (R180): nothing changes. -/
def statusRule (s : State) (_ : Frame) : Reaction := ⟨s, .ok, s.statusData⟩

/-- STATUS (R180). -/
def execStatus (dt : Nat) (s : State) : Host.Outcome State Fault Refusal :=
  .next ((s.advance dt).serve (hasCode codeStatus) statusRule)

/-! ## FETCH_NOTICES -/

/-- A notice source (R182). -/
inductive SourceId where
  | supervisor
  | channel (c : Chan)
  deriving DecidableEq, Repr

/-- The sources in the order of R183. -/
def allSources : List SourceId := .supervisor :: allChans.map .channel

/-- The highest class pending on a source, 0 when its set is empty. -/
def State.sourceClass (s : State) : SourceId → Nat
  | .supervisor => supClass s.supNotes
  | .channel c => chanClass (s.chan c).notes

/-- A source's pending set as the 24 bits of the reply (section 8.7). -/
def State.sourceSet (s : State) : SourceId → BitVec 24
  | .supervisor => s.supNotes.pending.setWidth 24
  | .channel c => (s.chan c).notes.pending.setWidth 24

/-- A source's detail record. -/
def State.sourceDetail (s : State) : SourceId → Detail
  | .supervisor => s.supNotes.detail
  | .channel c => (s.chan c).notes.detail

/-- The source a fetch serves by the ACTIVE order mode (R183): the first with a pending set that is not empty, or
the first of the highest class. -/
def State.chooseSource (s : State) : Option SourceId :=
  match s.active.shaft.order with
  | .channelOrder => allSources.find? fun x => s.sourceSet x != 0
  | .severityOrder =>
    let top := s.attention
    if top = 0 then none else allSources.find? fun x => s.sourceClass x == top

/-- Empty a source: no kind pending, every detail field absent (R183). -/
def State.clearSource (s : State) : SourceId → State
  | .supervisor => { s with supNotes := .empty }
  | .channel c => s.modChan c fun ch => { ch with notes := .empty }

/-- The number of a source in the reply (section 8.7). -/
def SourceId.byte : SourceId → Byte
  | .supervisor => 0x00#8
  | .channel c => BitVec.ofNat 8 (chanNumber c + 1)

/-- The port code (section 8.7). -/
def portCode : PortId → Nat
  | .u => 0
  | .d => 1

/-- The data of a FETCH_NOTICES reply from payload offset 2 (section 8.7); absent fields are sent as 0. -/
def noticeData (source : Byte) (set : BitVec 24) (d : Detail) : List Byte :=
  [source] ++ natBytes 3 set.toNat
    ++ [flagsByte [d.landmark.isSome, d.listFault.isSome, d.earlyTeeth.isSome, d.port.isSome]]
    ++ intBytes 4 ((d.landmark.map Prod.fst).getD 0) ++ natBytes 1 ((d.landmark.map Prod.snd).getD 0)
    ++ natBytes 1 ((d.listFault.map fun x => x.1.val).getD 0)
    ++ natBytes 1 ((d.listFault.map fun x => x.2.code).getD 0)
    ++ natBytes 1 (d.earlyTeeth.getD 0) ++ natBytes 1 ((d.port.map portCode).getD 0)

/-- FETCH_NOTICES's rule (R183). -/
def fetchRule (s : State) (_ : Frame) : Reaction :=
  match s.chooseSource with
  | some x => ⟨s.clearSource x, .ok, noticeData x.byte (s.sourceSet x) (s.sourceDetail x)⟩
  | none => ⟨s, .ok, noticeData 0xFF#8 0 .absent⟩

/-- FETCH_NOTICES (R183). -/
def execFetchNotices (dt : Nat) (s : State) : Host.Outcome State Fault Refusal :=
  .next ((s.advance dt).serve (hasCode codeFetch) fetchRule)

/-! ## QUIESCE and THAW -/

/-- A channel that stands in the way of a conditional quiesce (R144). -/
def State.blocksQuiesce (s : State) (c : Chan) : Bool :=
  match (s.ctl c).state with
  | .list | .injected | .stopping _ | .parkingRamp | .parkingSet | .releasingProve | .releasingOpen => true
  | .trafficLive | .trafficLapsed => decide ((s.gate c).out ≠ 0)
  | _ => false

/-- A forced quiesce on one channel (R145). -/
def State.quiesceChannel (s : State) (c : Chan) : State :=
  match (s.ctl c).state with
  | .list | .injected | .suspended => s.stopToHeld c
  | .stopping .suspended => s.redirectToHeld c
  | _ => s

/-- A forced quiesce on every channel (R145). -/
def State.quiesceAll (s : State) : State := allChans.foldl State.quiesceChannel s

/-- QUIESCE's rule (R144, R145): the mode decides; a mode that names neither is refused BAD_VALUE. -/
def quiesceRule (s : State) (f : Frame) : Reaction :=
  if byteAt f.payload 1 = 0x00#8 then
    if allChans.any s.blocksQuiesce then refusedAs s .notGranted else acceptedAs { s with freeze := true }
  else if byteAt f.payload 1 = 0x01#8 then acceptedAs ({ s with freeze := true } : State).quiesceAll
  else refusedAs s .badValue

/-- QUIESCE_CONDITIONAL (R144). -/
def execQuiesceConditional (dt : Nat) (s : State) : Host.Outcome State Fault Refusal :=
  .next ((s.advance dt).serve (hasScope codeQuiesce 0x01#8) quiesceRule)

/-- QUIESCE_FORCED (R145). -/
def execQuiesceForced (dt : Nat) (s : State) : Host.Outcome State Fault Refusal :=
  .next ((s.advance dt).serve (hasScope codeQuiesce 0x00#8) quiesceRule)

/-- THAW's rule (R146). -/
def thawRule (s : State) (_ : Frame) : Reaction := acceptedAs { s with freeze := false }

/-- THAW (R146). -/
def execThaw (dt : Nat) (s : State) : Host.Outcome State Fault Refusal :=
  .next ((s.advance dt).serve (hasCode codeThaw) thawRule)

/-! ## CLEAR_TRIP -/

/-- CLEAR_TRIP on one channel (R149): a TRIPPED channel enters PARKING phase SET, or UNCONFIGURED without a hoist
record, where its emission and feedback timers are stopped (R79). -/
def State.clearTripChannel (s : State) (c : Chan) : State :=
  if (s.ctl c).state = .tripped then
    if s.configured c then s.enterParkingSet c
    else ((s.modCtl c fun k => { k with emission := none, feedback := none }).enter c .unconfigured).rewriteForced c
  else s

/-- CLEAR_TRIP's rule (R149). -/
def clearTripRule (s : State) (_ : Frame) : Reaction :=
  if s.tripLine then refusedAs s .tripActive else acceptedAs (allChans.foldl State.clearTripChannel s)

/-- CLEAR_TRIP (R149). -/
def execClearTrip (dt : Nat) (s : State) : Host.Outcome State Fault Refusal :=
  .next ((s.advance dt).serve (hasCode codeClearTrip) clearTripRule)

/-! ## RESET -/

/-- The engine takes a RESET (R153, R178): an accepted one appends its reply and sets the reset-pending mark. -/
def State.takeReset (s : State) (f : Frame) : State :=
  match commonCheck f with
  | some r => s.answer f r []
  | none =>
    if byteAt f.payload 1 = 0x00#8 then ({ s with resetPending := some .ring } : State).answerAs .resetReply f .ok []
    else if byteAt f.payload 1 = 0x01#8 then ({ s with resetPending := some .full } : State).answerAs .resetReply f .ok []
    else s.answer f .badValue []

/-- RESET_RING (R153). -/
def execResetRing (dt : Nat) (s : State) : Host.Outcome State Fault Refusal :=
  .next ((s.advance dt).takeRequest (hasScope codeReset 0x01#8) State.takeReset)

/-- RESET_FULL (R153). -/
def execResetFull (dt : Nat) (s : State) : Host.Outcome State Fault Refusal :=
  .next ((s.advance dt).takeRequest (hasScope codeReset 0x00#8) State.takeReset)

end Sys2Proof.Machine
end

