-- ==== Sys2Proof/Machine/TableRequests.lean ====
section
/-! DEFINITION. The requests of the table store: TABLE_WRITE (R9, R10), TABLE_READ (R12), COPY_ACTIVE (R13), and
ACTIVATE from its taking to its completion (R14 to R19, R177). -/

namespace Sys2Proof.Machine

/-! ## TABLE_WRITE -/

/-- The record bytes a TABLE_WRITE carries. -/
def carriedRecords (t : Table) (payload : List Byte) : List (List Byte) :=
  chunks t.recordSize (t.carried payload.length) (payload.drop t.recordsAt)

/-- Write one HOISTS record. -/
def Quad.writeAt {α : Type} (q : Quad α) (first : Nat) (xs : List α) : Quad α :=
  match chanOf first, xs with
  | some c, x :: _ => q.set c x
  | _, _ => q

/-- The bank a TABLE_WRITE makes of SHADOW, or `none` when a field or the zone count is out of range (R9 step 3,
R10). -/
def Bank.written (b : Bank) (t : Table) (first : Nat) (payload : List Byte) : Option Bank :=
  match t with
  | .shaft => (decodeAll decodeShaft (carriedRecords t payload)).bind fun xs =>
      xs.head?.map fun r => { b with shaft := r }
  | .zones =>
    if within 1 32 (byteAt payload 3).toNat then
      (decodeAll decodeZone (carriedRecords t payload)).map fun xs =>
        { b with zoneCount := (byteAt payload 3).toNat, zones := writeRun b.zones first xs }
    else none
  | .landmarks => (decodeAll decodeLandmark (carriedRecords t payload)).map fun xs =>
      { b with landmarks := writeRun b.landmarks first xs }
  | .hoists => (decodeAll decodeHoist (carriedRecords t payload)).map fun xs =>
      { b with hoists := b.hoists.writeAt first xs }

/-- TABLE_WRITE's rule (R9): table, entries, ranges, then the write and the shadow-differs mark (R11). -/
def tableWriteRule (s : State) (f : Frame) : Reaction :=
  match decodeTable (byteAt f.payload 1) with
  | none => refusedAs s .badValue
  | some t =>
    let first := (byteAt f.payload 2).toNat
    if t.size < first + t.carried f.payload.length then refusedAs s .badIndex
    else
      match s.shadow.written t first f.payload with
      | none => refusedAs s .badValue
      | some b => acceptedAs { s with shadow := b, shadowDiffers := true }

/-- TABLE_WRITE (R9). -/
def execTableWrite (dt : Nat) (s : State) : Host.Outcome State Fault Refusal :=
  .next ((s.advance dt).serve (hasCode codeTableWrite) tableWriteRule)

/-! ## TABLE_READ -/

/-- The bank a bank operand names (section 8.7). -/
def State.bankOf (s : State) (b : Byte) : Option Bank :=
  if b = 0x00#8 then some s.active else if b = 0x01#8 then some s.shadow else none

/-- The records of a table addressed, in bytes and in entry order (R12). -/
def Bank.records (b : Bank) (t : Table) (first count : Nat) : List Byte :=
  match t with
  | .shaft => b.shaft.encode
  | .zones => ((readRun b.zones first count).map Zone.encode).flatten
  | .landmarks => ((readRun b.landmarks first count).map Landmark.encode).flatten
  | .hoists => ((chanOf first).map fun c => (b.hoists.get c).encode).getD []

/-- The data of a TABLE_READ reply (section 8.7). -/
def Bank.readData (b : Bank) (bank : Byte) (t : Table) (first count : Nat) : List Byte :=
  [bank, t.code, BitVec.ofNat 8 first, BitVec.ofNat 8 count]
    ++ (if t = .zones then natBytes 1 b.zoneCount else []) ++ b.records t first count

/-- TABLE_READ's rule (R12). -/
def tableReadRule (s : State) (f : Frame) : Reaction :=
  match s.bankOf (byteAt f.payload 1), decodeTable (byteAt f.payload 2) with
  | some b, some t =>
    let first := (byteAt f.payload 3).toNat
    let count := (byteAt f.payload 4).toNat
    if count = 0 ∨ t.most < count ∨ t.size < first + count then refusedAs s .badIndex
    else ⟨s, .ok, b.readData (byteAt f.payload 1) t first count⟩
  | _, _ => refusedAs s .badValue

/-- TABLE_READ (R12). -/
def execTableRead (dt : Nat) (s : State) : Host.Outcome State Fault Refusal :=
  .next ((s.advance dt).serve (hasCode codeTableRead) tableReadRule)

/-! ## COPY_ACTIVE -/

/-- COPY_ACTIVE's rule (R13). -/
def copyActiveRule (s : State) (_ : Frame) : Reaction :=
  acceptedAs { s with shadow := s.active, shadowDiffers := false }

/-- COPY_ACTIVE (R13). -/
def execCopyActive (dt : Nat) (s : State) : Host.Outcome State Fault Refusal :=
  .next ((s.advance dt).serve (hasCode codeCopy) copyActiveRule)

/-! ## ACTIVATE -/

/-- Data of an ACTIVATE reply (section 8.7): the CRC when it was computed, the failed check when there is one. -/
def activateData (crc : Option (BitVec 16)) (failure : Option Failure) : List Byte :=
  [yesNoByte crc.isSome] ++ natBytes 2 ((crc.map BitVec.toNat).getD 0)
    ++ (match failure with
      | some x => [x.table.code, BitVec.ofNat 8 x.entry, BitVec.ofNat 8 x.check]
      | none => [0x00#8, 0x00#8, 0x00#8])

/-- A channel at rest in the sense of the MOVING test (R14 step 2). -/
def ChanState.admitsActivation : ChanState → Bool
  | .parked | .unconfigured | .tripped => true
  | _ => false

/-- The engine takes an ACTIVATE (R14, R177): the common checks, the scope, and for scope ALL the MOVING test end it
at the taking; otherwise the activation is in progress and the reservation is held. -/
def State.takeActivate (s : State) (f : Frame) : State :=
  match commonCheck f with
  | some r => s.answer f r []
  | none =>
    let expected : BitVec 16 := BitVec.ofNat 16 (natAt f.payload 2 2)
    if byteAt f.payload 1 = 0x00#8 then
      if allChans.all fun c => (s.ctl c).state.admitsActivation then { s with activation := some ⟨.all, expected, f⟩ }
      else s.answer f .moving (activateData none none)
    else if byteAt f.payload 1 = 0x01#8 then { s with activation := some ⟨.zones, expected, f⟩ }
    else s.answer f .badValue (activateData none none)

/-- ACTIVATE_ALL (R14). -/
def execActivateAll (dt : Nat) (s : State) : Host.Outcome State Fault Refusal :=
  .next ((s.advance dt).takeRequest (hasScope codeActivate 0x01#8) State.takeActivate)

/-- ACTIVATE_ZONES (R14, R19). -/
def execActivateZones (dt : Nat) (s : State) : Host.Outcome State Fault Refusal :=
  .next ((s.advance dt).takeRequest (hasScope codeActivate 0x00#8) State.takeActivate)

/-- The consistency checks of a scope (R16, R19). -/
def State.scopeFailure (s : State) : Scope → Option Failure
  | .all => allFailure s.shadow s.supervisor
  | .zones => zoneFailure s.shadow.zoneCount s.shadow.entries s.active.shaft.floor

/-- One channel at the completion of a successful ACTIVATE ALL (R18, R79, R147): UNCONFIGURED enters PARKED, a
channel TRIPPED without a hoist record starts its timers, GOOD becomes DOUBTFUL, the good-landmark count, the
history and the early count are cleared. `was` says whether the bank had hoist records before. -/
def State.configureChannel (s : State) (was : Bool) (c : Chan) : State :=
  let s :=
    if (s.ctl c).state = .unconfigured then (((s.enter c .parked).restartEmission c).restartFeedback c).rewriteForced c
    else if (s.ctl c).state = .tripped ∧ was = false then (s.restartEmission c).restartFeedback c
    else s
  s.modReckon c fun r =>
    { r with quality := if r.quality = .good then .doubtful else r.quality, goodCount := 0, history := [],
             earlyCount := 0 }

/-- The effect of a successful activation (R17 to R19). -/
def State.activated (s : State) : Scope → State
  | .all =>
    allChans.foldl (fun t c => t.configureChannel s.activeFilled c)
      { s with active := s.shadow, activeFilled := true, shadowDiffers := false }
  | .zones => { s with active := { s.active with zoneCount := s.shadow.zoneCount, zones := s.shadow.zones } }

/-- An activation of the given scope ends (R14 steps 3 and 4, R177): CRC, checks, copy, and the reply into the
reservation; the activation-in-progress mark is cleared on every ending. -/
def State.endActivation (s : State) (scope : Scope) : State :=
  match s.activation with
  | some a =>
    if a.scope = scope then
      let crc := crc16 (s.shadow.image scope)
      let s := { s with activation := none }
      if crc ≠ a.expected then s.answer a.request .checkMismatch (activateData (some crc) none)
      else
        match s.scopeFailure scope with
        | some x => s.answer a.request .inconsistent (activateData (some crc) (some x))
        | none => (s.activated scope).answer a.request .ok (activateData (some crc) none)
    else s
  | none => s

/-- ACTIVATE_ALL_COMPLETION (R14 to R18). -/
def execActivateAllCompletion (dt : Nat) (s : State) : Host.Outcome State Fault Refusal :=
  .next ((s.advance dt).endActivation .all)

/-- ACTIVATE_ZONES_COMPLETION (R14, R17, R19). -/
def execActivateZonesCompletion (dt : Nat) (s : State) : Host.Outcome State Fault Refusal :=
  .next ((s.advance dt).endActivation .zones)

end Sys2Proof.Machine
end

