-- ==== Sys2Proof/Machine/Timers.lean ====
section
/-! DEFINITION. The expiries of the channels' timers. An expiry falls when its timer runs and has reached its tick of
the 1 ms time base, in the state in which the timer runs; otherwise the step does not happen (log 2, 6). -/

namespace Sys2Proof.Machine

/-- EMISSION_EXPIRY (R80, R49): one evaluation that originates a DRIVE frame, and the timer is restarted. -/
def execEmissionExpiry (dt : Nat) (c : Chan) (s : State) : Host.Outcome State Fault Refusal :=
  let s := s.advance dt
  .next (if s.awake && s.due (s.ctl c).emission then (s.restartEmission c).evaluate c none else s)

/-- DEMAND_TIMER_EXPIRY (R87): into LAPSED with DEMAND_LOST, the demand timer stopped and the emission timer
started. -/
def execDemandTimerExpiry (dt : Nat) (c : Chan) (s : State) : Host.Outcome State Fault Refusal :=
  let s := s.advance dt
  .next (if s.awake && s.due (s.ctl c).demand && (s.ctl c).state == .trafficLive then
      (((s.modCtl c fun k => { k with demand := none }).restartEmission c).enter c .trafficLapsed).raise c .demandLost
    else s)

/-- FEEDBACK_TIMER_EXPIRY (R82): FEEDBACK_LOST, and the timer is restarted. -/
def execFeedbackTimerExpiry (dt : Nat) (c : Chan) (s : State) : Host.Outcome State Fault Refusal :=
  let s := s.advance dt
  .next (if s.awake && s.due (s.ctl c).feedback then (s.raise c .feedbackLost).restartFeedback c else s)

/-- The stall watch has run for the tooth hold time from its reference (R46). -/
def State.stallDue (s : State) (c : Chan) : Bool :=
  match (s.ctl c).watch with
  | some w => decide (w.ref / Config.tick + w.hold ≤ s.ms)
  | none => false

/-- STALL_WATCH_EXPIRY (R46): STALL, and the channel enters FAULT. -/
def execStallWatchExpiry (dt : Nat) (c : Chan) (s : State) : Host.Outcome State Fault Refusal :=
  let s := s.advance dt
  .next (if s.awake && s.stallDue c && (s.ctl c).state.watched then (s.raise c .stall).enterFault c else s)

/-- The dwell timer runs in LIST, phase DWELL (R113). -/
def Controller.dwelling (k : Controller) : Bool := k.state == .list && k.listPhase == .dwell

/-- DWELL_EXPIRY (R114): the current descriptor completes. -/
def execDwellExpiry (dt : Nat) (c : Chan) (s : State) : Host.Outcome State Fault Refusal :=
  let s := s.advance dt
  .next (match s.awake && s.due (s.ctl c).dwell && (s.ctl c).dwelling, (s.ctl c).current with
    | true, some i => s.complete c i
    | _, _ => s)

/-- DURATION_EXPIRY (R130): RESPONSE_DONE, and the channel returns to what its save slot holds. -/
def execDurationExpiry (dt : Nat) (c : Chan) (s : State) : Host.Outcome State Fault Refusal :=
  let s := s.advance dt
  .next (if s.awake && s.due (s.ctl c).duration && (s.ctl c).state == .injected then s.endInjection c else s)

/-- PROVE_EXPIRY (R140): phase OPEN with the brake confirm timer started. -/
def execProveExpiry (dt : Nat) (c : Chan) (s : State) : Host.Outcome State Fault Refusal :=
  let s := s.advance dt
  .next (if s.awake && s.due (s.ctl c).prove && (s.ctl c).state == .releasingProve then s.enterOpen c else s)

/-- The brake confirm timer runs in PARKING and in RELEASING phase OPEN (R136, R137, R141). -/
def ChanState.confirming : ChanState → Bool
  | .parkingRamp | .parkingSet | .releasingOpen => true
  | _ => false

/-- BRAKE_CONFIRM_EXPIRY (R136, R137, R141): BRAKE_TIMEOUT, and the channel enters FAULT. -/
def execBrakeConfirmExpiry (dt : Nat) (c : Chan) (s : State) : Host.Outcome State Fault Refusal :=
  let s := s.advance dt
  .next (if s.awake && s.due (s.ctl c).brake && (s.ctl c).state.confirming then (s.raise c .brakeTimeout).enterFault c else s)

end Sys2Proof.Machine
end

