-- ==== Sys2Proof/Machine/Dispatch.lean ====
section
/-! DEFINITION. Every command's meaning, one arm per row of the table. -/

namespace Sys2Proof.Machine

def exec (i : Instr) (s : State) : Host.Outcome State Fault Refusal :=
  match i with
  | .status dt => Sys2Proof.Machine.execStatus dt s
  | .fetchNotices dt => Sys2Proof.Machine.execFetchNotices dt s
  | .tableWrite dt => Sys2Proof.Machine.execTableWrite dt s
  | .tableRead dt => Sys2Proof.Machine.execTableRead dt s
  | .copyActive dt => Sys2Proof.Machine.execCopyActive dt s
  | .activateAll dt => Sys2Proof.Machine.execActivateAll dt s
  | .activateZones dt => Sys2Proof.Machine.execActivateZones dt s
  | .activateAllCompletion dt => Sys2Proof.Machine.execActivateAllCompletion dt s
  | .activateZonesCompletion dt => Sys2Proof.Machine.execActivateZonesCompletion dt s
  | .listWrite dt => Sys2Proof.Machine.execListWrite dt s
  | .listRead dt => Sys2Proof.Machine.execListRead dt s
  | .startList dt => Sys2Proof.Machine.execStartList dt s
  | .continueList dt => Sys2Proof.Machine.execContinueList dt s
  | .stop dt => Sys2Proof.Machine.execStop dt s
  | .traffic dt => Sys2Proof.Machine.execTraffic dt s
  | .respond dt => Sys2Proof.Machine.execRespond dt s
  | .park dt => Sys2Proof.Machine.execPark dt s
  | .release dt => Sys2Proof.Machine.execRelease dt s
  | .setDepth dt => Sys2Proof.Machine.execSetDepth dt s
  | .quiesceConditional dt => Sys2Proof.Machine.execQuiesceConditional dt s
  | .quiesceForced dt => Sys2Proof.Machine.execQuiesceForced dt s
  | .thaw dt => Sys2Proof.Machine.execThaw dt s
  | .clearTrip dt => Sys2Proof.Machine.execClearTrip dt s
  | .resetRing dt => Sys2Proof.Machine.execResetRing dt s
  | .resetFull dt => Sys2Proof.Machine.execResetFull dt s
  | .resetTakesPlace dt straps => Sys2Proof.Machine.execResetTakesPlace dt straps s
  | .unknownRequest dt => Sys2Proof.Machine.execUnknownRequest dt s
  | .classifyUpstreamFrame dt => Sys2Proof.Machine.execClassifyUpstreamFrame dt s
  | .classifyDownstreamFrame dt => Sys2Proof.Machine.execClassifyDownstreamFrame dt s
  | .toothEvent dt c tbHigh => Sys2Proof.Machine.execToothEvent dt c tbHigh s
  | .emissionExpiry dt c => Sys2Proof.Machine.execEmissionExpiry dt c s
  | .demandTimerExpiry dt c => Sys2Proof.Machine.execDemandTimerExpiry dt c s
  | .feedbackTimerExpiry dt c => Sys2Proof.Machine.execFeedbackTimerExpiry dt c s
  | .stallWatchExpiry dt c => Sys2Proof.Machine.execStallWatchExpiry dt c s
  | .dwellExpiry dt c => Sys2Proof.Machine.execDwellExpiry dt c s
  | .durationExpiry dt c => Sys2Proof.Machine.execDurationExpiry dt c s
  | .proveExpiry dt c => Sys2Proof.Machine.execProveExpiry dt c s
  | .brakeConfirmExpiry dt c => Sys2Proof.Machine.execBrakeConfirmExpiry dt c s
  | .tripAssertion dt => Sys2Proof.Machine.execTripAssertion dt s
  | .tripNegation dt => Sys2Proof.Machine.execTripNegation dt s
  | .resetNAssert dt => Sys2Proof.Machine.execResetNAssert dt s
  | .ringReset dt => Sys2Proof.Machine.execRingReset dt s
  | .fullResetBegin dt => Sys2Proof.Machine.execFullResetBegin dt s
  | .fullResetComplete dt straps => Sys2Proof.Machine.execFullResetComplete dt straps s
  | .powerOnReset dt straps => Sys2Proof.Machine.execPowerOnReset dt straps s
  | .frameComplete dt p check => Sys2Proof.Machine.execFrameComplete dt p check s
  | .frameLenExceeded dt p len => Sys2Proof.Machine.execFrameLenExceeded dt p len s
  | .framingError dt p => Sys2Proof.Machine.execFramingError dt p s
  | .frameCut dt p idle => Sys2Proof.Machine.execFrameCut dt p idle s
  | .huntIdleClear dt p idle => Sys2Proof.Machine.execHuntIdleClear dt p idle s
  | .lineStuck dt p held => Sys2Proof.Machine.execLineStuck dt p held s
  | .lineFreed dt p => Sys2Proof.Machine.execLineFreed dt p s
  | .frameTransmitStart dt p => Sys2Proof.Machine.execFrameTransmitStart dt p s
  | .frameTransmitEnd dt p => Sys2Proof.Machine.execFrameTransmitEnd dt p s
  | .frameByteReceived dt p b => Sys2Proof.Machine.execFrameByteReceived dt p b s

end Sys2Proof.Machine
end

