-- ==== Sys2Proof/Safety.lean ====
section
/-! DEFINITION. What holds of the part whatever it is commanded, in the terms the statements use: when the engine takes
a request and what its reply leaves, what the stops and faults leave of a controller's record, and the invariants that
the manual's prose claims for every state. -/

namespace Sys2Proof

/-- The µs a command brings with it. -/
def Instr.elapsed : Instr → Nat
  | .status dt | .fetchNotices dt | .tableWrite dt | .tableRead dt | .copyActive dt | .activateAll dt
  | .activateZones dt | .activateAllCompletion dt | .activateZonesCompletion dt | .listWrite dt | .listRead dt
  | .startList dt | .continueList dt | .stop dt | .traffic dt | .respond dt | .park dt | .release dt | .setDepth dt
  | .quiesceConditional dt | .quiesceForced dt | .thaw dt | .clearTrip dt | .resetRing dt | .resetFull dt
  | .resetTakesPlace dt _ | .unknownRequest dt | .classifyUpstreamFrame dt | .classifyDownstreamFrame dt
  | .toothEvent dt _ _ | .emissionExpiry dt _ | .demandTimerExpiry dt _ | .feedbackTimerExpiry dt _
  | .stallWatchExpiry dt _ | .dwellExpiry dt _ | .durationExpiry dt _ | .proveExpiry dt _
  | .brakeConfirmExpiry dt _ | .tripAssertion dt | .tripNegation dt | .resetNAssert dt | .ringReset dt
  | .fullResetBegin dt | .fullResetComplete dt _ | .powerOnReset dt _ | .frameComplete dt _ _
  | .frameLenExceeded dt _ _ | .framingError dt _ | .frameCut dt _ _ | .huntIdleClear dt _ _ | .lineStuck dt _ _
  | .lineFreed dt _ | .frameTransmitStart dt _ | .frameTransmitEnd dt _ | .frameByteReceived dt _ _ => dt

namespace Machine

/-! ## Requests -/

/-- The engine takes `f`, and `rest` goes on waiting (R174). -/
structure State.Takes (s : State) (f : Frame) (rest : List Frame) : Prop where
  noActivation : s.activation = none
  noReset : s.resetPending = none
  lineNegated : s.resetLine = .negated
  slotFree : s.portU.tx.length + s.reserved.toNat < 16
  oldest : s.requests = f :: rest

/-- `dt` µs later, with the request gone from the queue. -/
def State.taken (s : State) (dt : Nat) (rest : List Frame) : State := { s.advance dt with requests := rest }

/-- The one REPLY is the newest entry of port U's queue, or is discarded by a STUCK port U; no slot is reserved (R161,
R165, R174, R175). -/
def State.repliedAs (s : State) (kind : TxKind) (f : Frame) (r : Result) (data : List Byte) : State :=
  if s.portU.live then
    { s with reserved := false, portU := { s.portU with tx := s.portU.tx ++ [⟨kind, s.replyTo f r data⟩] } }
  else { s with reserved := false }

/-- The REPLY of any request but an accepted RESET. -/
def State.replied (s : State) (f : Frame) (r : Result) (data : List Byte) : State := s.repliedAs .reply f r data

/-- The byte of a channel number. -/
def chanByte (c : Chan) : Byte := BitVec.ofNat 8 (chanNumber c)

/-- The rows of the opcode table by request code (section 8.7); ACTIVATE, QUIESCE and RESET have two each. -/
def requestRows (dt : Nat) : List (Byte × Instr) :=
  [(0x01#8, .status dt), (0x02#8, .fetchNotices dt), (0x10#8, .tableWrite dt), (0x11#8, .tableRead dt),
   (0x12#8, .copyActive dt), (0x13#8, .activateAll dt), (0x13#8, .activateZones dt), (0x18#8, .listWrite dt),
   (0x19#8, .listRead dt), (0x20#8, .startList dt), (0x21#8, .continueList dt), (0x22#8, .stop dt),
   (0x23#8, .traffic dt), (0x24#8, .respond dt), (0x25#8, .park dt), (0x26#8, .release dt), (0x27#8, .setDepth dt),
   (0x30#8, .quiesceConditional dt), (0x30#8, .quiesceForced dt), (0x31#8, .thaw dt), (0x32#8, .clearTrip dt),
   (0x3F#8, .resetRing dt), (0x3F#8, .resetFull dt)]

/-- The codes of the requests that name a channel (R176 step 4). -/
def namesChannel (code : Byte) : Prop :=
  code ∈ [0x20#8, 0x21#8, 0x22#8, 0x23#8, 0x24#8, 0x25#8, 0x26#8, 0x27#8]

/-- The LEN of a request with payload `p` matches its code (R176 step 3, section 8.7). -/
def LenMatches (p : List Byte) : Prop :=
  let n := p.length
  let code := byteAt p 0
  let table := byteAt p 1
  if code = 0x10#8 then
    if table = 0x00#8 then n = 33
    else if table = 0x01#8 then n ∈ [13, 22, 31, 40]
    else if table = 0x02#8 then n ∈ [11, 19, 27, 35, 43]
    else if table = 0x03#8 then n = 44
    else 3 ≤ n
  else if code = 0x11#8 then n = 5
  else if code = 0x18#8 then n ∈ [15, 28, 41]
  else if code = 0x19#8 then n = 3
  else if code = 0x13#8 ∨ code = 0x20#8 then n = 4
  else if code = 0x24#8 then n = 10
  else if code = 0x27#8 then n = 6
  else if code ∈ [0x21#8, 0x22#8, 0x23#8, 0x25#8, 0x26#8, 0x30#8, 0x3F#8] then n = 2
  else n = 1

/-! ## Channels changed -/

/-- Everything kept for hoist `c` is `ch`; the rest of the part is as it was. -/
def State.withChan (s : State) (c : Chan) (ch : Channel) : State := { s with chans := s.chans.set c ch }

/-- The record of hoist `c`'s controller is `k`; the rest of the part is as it was. -/
def State.withCtl (s : State) (c : Chan) (k : Controller) : State := s.withChan c { s.chan c with ctl := k }

/-- The record of hoist `c`'s controller is `k`, and a notice kind has joined its pending set. -/
def State.withCtlNote (s : State) (c : Chan) (k : Controller) (n : ChanKind) : State :=
  s.withChan c { s.chan c with ctl := k, notes := (s.chan c).notes.add n.bit }

/-- Every hoist's keeping is given by `g`; the rest of the part is as it was. -/
def State.mapChans (s : State) (g : Chan → Channel) : State := { s with chans := ⟨g .c0, g .c1, g .c2, g .c3⟩ }

/-- The drive entries of the channels that `p` names are rewritten where they stand: speed 0, brake SET, mark FORCED,
the origin and the header kept, CHECK afresh (R72). -/
def forceWhere (p : Chan → Bool) (q : List TxEntry) : List TxEntry :=
  q.map fun e =>
    match e.kind with
    | .drive c =>
      if p c then
        { e with frame :=
          Frame.sealed { e.frame with payload := [0x00#8, 0x00#8, 0x01#8, 0x04#8] ++ e.frame.payload.drop 4 } }
      else e
    | _ => e

/-- Port D's waiting drive entries rewritten for the channels that `p` names. -/
def State.forcing (s : State) (p : Chan → Bool) : State :=
  { s with portD := { s.portD with tx := forceWhere p s.portD.tx } }

/-- The emission timer after a change into a state in which it runs (R80): unchanged, or started. -/
def State.emissionOn (s : State) (c : Chan) : Option Nat :=
  (s.ctl c).emission.or (some (s.ms + (s.hoist c).emission))

/-- The stall watch after the channel has come into state `st` (R45). -/
def State.watchIn (s : State) (c : Chan) (st : ChanState) : Option StallWatch :=
  if st.watched ∧ (s.hoist c).crawl * 1000 ≤ (s.gate c).out.natAbs then
    (s.ctl c).watch.or (some ⟨s.now, (s.hoist c).toothHold⟩)
  else none

/-- The record with its list given up (R89, R93, R98, R124). -/
def Controller.unlisted (k : Controller) : Controller :=
  { k with current := none, listPhase := .approach, dwell := none, carried := none }

/-- The record with list and injection given up (R89, R93, R98, R147). -/
def Controller.bare (k : Controller) : Controller := { k.unlisted with slot := none, duration := none }

/-- The controller's record after an entry to STOPPING with destination HELD (R89), completed at once when rest is
confirmed (R91). -/
def State.stoppedCtl (s : State) (c : Chan) : Controller :=
  { (s.ctl c).bare with
    state := if s.rest c then .held else .stopping .held, demand := none, emission := s.emissionOn c,
    watch := if s.rest c then none else s.watchIn c (.stopping .held) }

/-- The controller's record after an entry to STOPPING with destination SUSPENDED with descriptor `i` current and a
carried dwell or none (R89, R116, R132), completed at once when rest is confirmed (R91). -/
def State.suspendedCtl (s : State) (c : Chan) (i : Fin 256) (carried : Option Nat) : Controller :=
  { s.ctl c with
    state := if s.rest c then .suspended else .stopping .suspended, current := some i, listPhase := .approach,
    dwell := none, carried := carried, emission := s.emissionOn c,
    watch := if s.rest c then none else s.watchIn c (.stopping .suspended) }

/-- The controller's record in LIST with descriptor `i` just become current and not barred (R97, R108). -/
def State.listedCtl (s : State) (c : Chan) (i : Fin 256) : Controller :=
  { s.ctl c with
    state := .list, current := some i, listPhase := .approach, evaluated := false, dwell := none, carried := none,
    watch := s.watchIn c .list }

/-- What becomes of channel `c` when descriptor `i` becomes current and is barred for `cause` (R109). -/
def State.barredOn (s : State) (c : Chan) (i : Fin 256) (cause : ListCause) : State :=
  s.withChan c { s.chan c with
    ctl := { s.stoppedCtl c with evaluated := false },
    notes := { (s.chan c).notes.add ChanKind.listFault.bit with
      detail := { (s.chan c).notes.detail with listFault := some (i, cause) } } }

/-- The conditions of R109 in their order: the first that holds bars the descriptor. -/
structure State.Admits (s : State) (c : Chan) (d : Descriptor) : Prop where
  valid : d.cruise ≠ 0
  belowTop : (s.lane c).top ≤ d.target
  aboveBottom : d.target ≤ (s.lane c).bottom
  dwellAllowed : d.dwell = 0 ∨ ∀ z, zoneAt s.active.entries d.target = some z → z.noDwell = false

/-- `cause` bars descriptor `d` on channel `c`: its condition holds and no condition before it does (R109). -/
inductive State.Bars (s : State) (c : Chan) (d : Descriptor) : ListCause → Prop where
  | invalid : d.cruise = 0 → Bars s c d .invalid
  | outsideStops : d.cruise ≠ 0 → d.target < (s.lane c).top ∨ (s.lane c).bottom < d.target → Bars s c d .outsideStops
  | noDwellZone (z : Zone) : d.cruise ≠ 0 → (s.lane c).top ≤ d.target → d.target ≤ (s.lane c).bottom →
      0 < d.dwell → zoneAt s.active.entries d.target = some z → z.noDwell = true → Bars s c d .noDwellZone

/-- Descriptor `j` is the successor of descriptor `i` (R107). -/
def State.Successor (s : State) (i j : Fin 256) : Prop :=
  (s.descs[i]).next = .link j ∨ ((s.descs[i]).next = .next ∧ j.val = i.val + 1)

/-- Descriptor `i` has no successor: next mode END, or NEXT at index 255 (R107). -/
def State.NoSuccessor (s : State) (i : Fin 256) : Prop :=
  (s.descs[i]).next = .stopHere ∨ ((s.descs[i]).next = .next ∧ i.val = 255)

/-- Descriptor `i` of channel `c` completes and `answers` takes what the part then is (R114): MOVE_DONE where the
descriptor asks for it, then its successor current, let in or barred (R108, R109), or HELD with LIST_END. -/
def State.Completes (s : State) (c : Chan) (i : Fin 256) (answers : State → Prop) : Prop :=
  let v := if (s.descs[i]).notify then s.withCtlNote c (s.ctl c) .moveDone else s
  (∀ j, s.Successor i j → s.Admits c (s.descs[j]) →
    answers (v.withCtl c { v.ctl c with
      current := some j, listPhase := .approach, evaluated := false, dwell := none, carried := none }))
  ∧ (∀ j cause, s.Successor i j → s.Bars c (s.descs[j]) cause → answers (v.barredOn c j cause))
  ∧ (s.NoSuccessor i →
    answers (v.withCtlNote c { (v.ctl c).unlisted with state := .held, watch := none } .listEnd))

/-- The 13 bytes of a descriptor carry a field out of its range, or a presence bit that does not fit (R102, R104 step
3, section 8.7). -/
def DescriptorBytesBad (b : List Byte) : Prop :=
  let flag (k : Nat) : Bool := (byteAt b 12).getLsbD k
  2000000 < natAt b 0 4 ∨ 32767 < natAt b 4 2 ∨ 2 < (byteAt b 8).toNat
  ∨ (flag 0 = true ↔ byteAt b 8 ≠ 0x01#8)
  ∨ flag 1 ≠ flag 2
  ∨ (flag 1 = true ∧ (63 < (byteAt b 10).toNat ∨ 3 < (byteAt b 11).toNat))
  ∨ 16 ≤ (byteAt b 12).toNat

/-- The controller's record after an entry to PARKING phase SET (R137, R138, R98). -/
def State.settingCtl (s : State) (c : Chan) : Controller :=
  { s.ctl c with
    state := .parkingSet, demand := none, prove := none, brake := some (s.ms + (s.hoist c).brakeConfirm),
    watch := none, zeroMoment := if (s.gate c).out = 0 then (s.ctl c).zeroMoment else s.moment }

/-- Channel `c` in PARKING phase SET with the record `k`, its output at 0 (R138). -/
def State.settingWith (s : State) (c : Chan) (k : Controller) : State :=
  s.withChan c { s.chan c with ctl := k, gate := { s.gate c with out := 0 } }

/-- The controller's record after an entry to FAULT (R93). -/
def State.faultCtl (s : State) (c : Chan) : Controller :=
  { (s.ctl c).bare with
    state := .fault, demand := none, prove := none, brake := none, watch := none, emission := s.emissionOn c }

/-- Channel `c` enters FAULT with a notice (R93): its record, the notice, and its waiting drive entry (R72). -/
def State.faulted (s : State) (c : Chan) (n : ChanKind) : State :=
  (s.withCtlNote c (s.faultCtl c) n).forcing fun d => d == c

/-- The controller's record after an assertion of the trip line (R147). -/
def State.trippedCtl (s : State) (c : Chan) : Controller :=
  if (s.ctl c).state = .tripped then s.ctl c
  else
    { (s.ctl c).bare with
      state := .tripped, demand := none, prove := none, brake := none, watch := none,
      emission := if s.activeFilled then s.emissionOn c else none,
      feedback := if s.activeFilled then (s.ctl c).feedback else none }

/-- An assertion event of the trip line (R147): every channel, every waiting drive entry, and the notice. -/
def State.trippedAll (s : State) : State :=
  { (s.mapChans fun c => { s.chan c with ctl := s.trippedCtl c }).forcing fun c => (s.ctl c).state != .tripped with
    supNotes := s.supNotes.add SupKind.tripAsserted.bit }

/-- The reckoning record after the completion of an ACTIVATE ALL (R18). -/
def Reckoning.demoted (r : Reckoning) : Reckoning :=
  { r with quality := if r.quality = .good then .doubtful else r.quality, goodCount := 0, history := [],
           earlyCount := 0 }

/-- The controller's record after the completion of an ACTIVATE ALL (R18, R79, R147), with the record's figures read
from the bank that is now ACTIVE; `was` says whether the channel had an ACTIVE hoist record before. -/
def State.configuredCtl (s : State) (was : Bool) (c : Chan) : Controller :=
  let started : Controller :=
    { s.ctl c with emission := some (s.ms + (s.hoist c).emission), feedback := some (s.ms + (s.hoist c).demandTimeout) }
  if (s.ctl c).state = .unconfigured then { started with state := .parked, watch := none }
  else if (s.ctl c).state = .tripped ∧ was = false then started
  else s.ctl c

/-- A channel at the beginning of a full reset (R22, R47, R77). -/
def State.resetChan (s : State) (c : Chan) : Channel :=
  { s.chan c with
    reckon := { Reckoning.initial with
      depth := (s.reckon c).depth,
      quality := if (s.reckon c).quality = .unreferenced then .unreferenced else .lost },
    gate := ⟨0, none, 0, 0⟩,
    ctl := .initial (if s.activeFilled then .parkingSet else .unconfigured) s.moment }

/-- A channel at the release of RESET_N after a full reset (R77, R185). -/
def State.releasedChan (s : State) (c : Chan) : Channel :=
  { s.chan c with
    ctl :=
      if (s.ctl c).state = .parkingSet then
        { s.ctl c with
          zeroMoment := s.moment, emission := some (s.ms + (s.hoist c).emission),
          feedback := some (s.ms + (s.hoist c).demandTimeout),
          brake := some (s.ms + (s.hoist c).brakeConfirm) }
      else { s.ctl c with zeroMoment := s.moment },
    notes := .empty }

/-- The ports, the strap levels and the notices at the completion of a full reset (R152, R185). -/
def State.refreshed (s : State) (straps : BitVec 4) : State :=
  { s with
    straps := straps, resetLine := .negated, portU := .initial s.now, portD := .initial s.now, reserved := false,
    supNotes := ⟨0x800#12, .absent⟩ }

/-! ## Feedback -/

/-- The classifier is about to read a FEEDBACK frame of channel `c` from port D (R167, R168). -/
structure State.FeedbackWaits (s : State) (f : Frame) (rest : List Frame) (c : Chan) : Prop where
  lineNegated : s.resetLine = .negated
  oldest : s.portD.rx = f :: rest
  dest : f.dest ≠ 0x00#8
  src : f.src ≠ 0x00#8
  kind : f.kind = 0x32#8
  filled : s.activeFilled = true
  from_c : ∀ d, (s.hoist d).addr = f.src ↔ d = c
  len : f.payload.length = 6

/-- `dt` µs later, with the frame gone from port D's queue, its fields in the feedback record, the load copied and the
feedback timer restarted (R82, R83, R168). -/
def State.feedbackRead (s : State) (dt : Nat) (rest : List Frame) (c : Chan) (f : Frame) : State :=
  let u : State := { s.advance dt with portD := { s.portD with rx := rest } }
  u.withChan c { u.chan c with
    ctl := { u.ctl c with
      record := some ⟨intAt f.payload 0 2, natAt f.payload 2 2, decodeDrive (byteAt f.payload 4),
        decodeBrake (byteAt f.payload 5), u.moment⟩,
      feedback := some (u.ms + (u.hoist c).demandTimeout) },
    reckon := { u.reckon c with load := natAt f.payload 2 2 } }

/-- The frame goes on with the channel's figures as they then stand, or is consumed (R167, R169). -/
def State.onward (s : State) (c : Chan) (f : Frame) : State :=
  if f.dest = s.supervisor then s
  else
    s.passUp (Frame.sealed
      { f with
        payload := f.payload ++ natBytes 4 ((s.reckon c).depth / 1000) ++ natBytes 1 (s.reckon c).quality.code
          ++ [(s.ctl c).state.byte] ++ natBytes 2 (s.gate c).downCap ++ natBytes 2 (s.gate c).upCap
          ++ natBytes 1 s.attention })

/-! ## Notices -/

/-- The place of a source in the order of R183. -/
def SourceId.rank : SourceId → Nat
  | .supervisor => 0
  | .channel c => chanNumber c + 1

/-- The source that a fetch serves (R183). -/
def State.Serves (s : State) (x : SourceId) : Prop :=
  s.sourceSet x ≠ 0 ∧
    match s.active.shaft.order with
    | .channelOrder => ∀ y : SourceId, y.rank < x.rank → s.sourceSet y = 0
    | .severityOrder =>
      ∀ y : SourceId, s.sourceClass y ≤ s.sourceClass x ∧ (y.rank < x.rank → s.sourceClass y < s.sourceClass x)

/-! ## Evaluations -/

/-- The approach demand of descriptor `i` in µm/s (R111), 0 in phase DWELL (R113). -/
def State.approachOf (s : State) (c : Chan) (i : Fin 256) : Int :=
  let r : Int := ((s.descs[i]).target : Int) - (((s.reckon c).depth / 1000 : Nat) : Int)
  if (s.ctl c).listPhase = .dwell ∨ r.natAbs ≤ (s.hoist c).arrival then 0
  else
    r.sign * ((min (s.descs[i]).cruise
      (min (s.hoist c).driveLimit (Nat.sqrt (2 * (s.hoist c).aS * r.natAbs))) * 1000 : Nat) : Int)

/-- The demand of an injection in µm/s (R127, R128). -/
def State.convertedDemand (s : State) (c : Chan) : Int :=
  match (s.ctl c).record with
  | some r =>
    if r.load < (s.hoist c).fMin then 0
    else
      max (-((s.hoist c).driveLimit : Int))
        (min ((s.hoist c).driveLimit : Int) ((1000 * (s.ctl c).power).tdiv (r.load : Int))) * 1000
  | none => 0

/-- The demand of an evaluation that an emission expiry causes (R51, R53). -/
def State.ownDemand (s : State) (c : Chan) : Int :=
  if s.freeze then 0
  else
    match (s.ctl c).state, (s.ctl c).current with
    | .list, some i => s.approachOf c i
    | .injected, _ => s.convertedDemand c
    | _, _ => 0

/-- A speed held within caps of `down` and `up` mm/s. -/
def heldWithin (down up : Nat) (v : Int) : Int :=
  if ((down * 1000 : Nat) : Int) < v then ((down * 1000 : Nat) : Int)
  else if v < -((up * 1000 : Nat) : Int) then -((up * 1000 : Nat) : Int)
  else v

/-- The DRIVE frame's gate mark outside the forced states (R67). -/
def markOf (d t r n : Int) : Byte :=
  if t ≠ d ∨ n ≠ r then 0x03#8 else if r ≠ t then 0x02#8 else 0x01#8

/-- The DRIVE frame that the part originates for channel `c` (R68). -/
def State.ownFrame (s : State) (c : Chan) (n : Int) (brake mark : Byte) : Frame :=
  Frame.sealed
    { dest := (s.hoist c).addr, src := s.supervisor, kind := 0x31#8, tag := 0x00#8,
      payload := intBytes 2 (n.tdiv 1000) ++ [brake, mark, 0x01#8], check := 0x00#8 }

/-- The dispatch frame as the gate rewrites it (R70). -/
def rewritten (f : Frame) (n : Int) (brake mark : Byte) : Frame :=
  Frame.sealed { f with payload := intBytes 2 (n.tdiv 1000) ++ [brake, mark, 0x00#8] }

/-- The separation term of channel `c` (R58, R59). -/
def State.separationOf (s : State) (c : Chan) : Nat :=
  let q := partnerOf c
  let depth (d : Chan) : Int := (((s.reckon d).depth / 1000 : Nat) : Int)
  let gap : Int :=
    if isUpper c then depth q - (depth c + (s.hoist c).body) else depth c - (depth q + (s.hoist q).body)
  let closing : Bool := if isUpper c then decide ((s.gate q).out < 0) else decide (0 < (s.gate q).out)
  let v := ((s.gate q).out.tdiv 1000).natAbs
  let stop : Int := if closing then ((v * v / (2 * (s.hoist q).aS) : Nat) : Int) else 0
  let room : Int := gap - ((s.lane c).margin : Int) - stop
  if (s.reckon c).quality = .unreferenced ∨ (s.reckon q).quality = .unreferenced then 0
  else if 0 < room then Nat.sqrt (2 * (s.hoist c).aS * room.toNat) else 0

/-- The ACTIVE zone table as ACTIVATE lets it in: entries, the first at top 0, each top below its predecessor's (R16,
checks 3 to 5). -/
structure State.ZonesOrdered (s : State) : Prop where
  firstAtTop : s.active.entries.head?.map Zone.top = some 0
  ascending : s.active.entries.Pairwise fun z z' => z.top < z'.top

/-- `z` is the zone of channel `c`'s depth (R6): at or below its top, and above every deeper entry's. -/
structure State.LiesIn (s : State) (c : Chan) (z : Zone) : Prop where
  entry : z ∈ s.active.entries
  top : z.top ≤ (s.reckon c).depth / 1000
  next : ∀ z' ∈ s.active.entries, z.top < z'.top → (s.reckon c).depth / 1000 < z'.top

/-- The terms that hold in both directions (R54, R55, R60). -/
inductive State.CommonTerm (s : State) (c : Chan) : Nat → Prop where
  | most : CommonTerm s c 32767
  | drive : CommonTerm s c (s.hoist c).driveLimit
  | openZone (z : Zone) : s.LiesIn c z → z.limit (laneOf c) ≠ 0 → CommonTerm s c (z.limit (laneOf c))
  | closedZone (z : Zone) : s.LiesIn c z → z.limit (laneOf c) = 0 → CommonTerm s c (s.hoist c).crawl
  | doubtful : (s.reckon c).quality = .doubtful → CommonTerm s c (s.hoist c).doubtful
  | lost : (s.reckon c).quality = .lost → CommonTerm s c (s.hoist c).crawl
  | unreferenced : (s.reckon c).quality = .unreferenced → CommonTerm s c (s.hoist c).crawl

/-- The terms of the down cap (R54 to R60). -/
inductive State.DownTerm (s : State) (c : Chan) : Nat → Prop where
  | common (x : Nat) : s.CommonTerm c x → DownTerm s c x
  | ahead (z : Zone) : z ∈ s.active.entries → (s.reckon c).depth / 1000 < z.top →
      DownTerm s c (Nat.sqrt (z.limit (laneOf c) ^ 2 + 2 * (s.hoist c).aS * (z.top - (s.reckon c).depth / 1000)))
  | stop : DownTerm s c (Nat.sqrt (2 * (s.hoist c).aS * ((s.lane c).bottom - (s.reckon c).depth / 1000)))
  | separation : isUpper c = true → DownTerm s c (s.separationOf c)

/-- The terms of the up cap (R54 to R60); the boundary into entry `k` is the top of entry `k + 1`. -/
inductive State.UpTerm (s : State) (c : Chan) : Nat → Prop where
  | common (x : Nat) : s.CommonTerm c x → UpTerm s c x
  | ahead (k : Nat) (z z' : Zone) : s.active.entries[k]? = some z → s.active.entries[k + 1]? = some z' →
      z'.top < (s.reckon c).depth / 1000 →
      UpTerm s c (Nat.sqrt (z.limit (laneOf c) ^ 2 + 2 * (s.hoist c).aS * ((s.reckon c).depth / 1000 - z'.top)))
  | stop : UpTerm s c (Nat.sqrt (2 * (s.hoist c).aS * ((s.reckon c).depth / 1000 - (s.lane c).top)))
  | separation : isUpper c = false → UpTerm s c (s.separationOf c)

/-! ## Consistency checks -/

/-- Check `check` of R16 fails at `entry` of its table: `b` is the bank examined and `floor` the shaft floor depth
that checks 6 and 7 take. -/
inductive Bank.Fails (b : Bank) (floor : Nat) (supervisor : Byte) : (check entry : Nat) → Prop where
  | shaftRange : b.shaft.inRange = false → Fails b floor supervisor 1 0
  | stops (l : Lane) :
      (b.shaft.figures l).bottom ≤ (b.shaft.figures l).top ∨ b.shaft.floor < (b.shaft.figures l).bottom →
      Fails b floor supervisor 2 0
  | zoneCount : b.zoneCount < 1 → Fails b floor supervisor 3 0
  | firstTop (z : Zone) : b.entries[0]? = some z → z.top ≠ 0 → Fails b floor supervisor 4 0
  | ascending (k : Nat) (z z' : Zone) : b.entries[k]? = some z → b.entries[k + 1]? = some z' → z'.top ≤ z.top →
      Fails b floor supervisor 5 (k + 1)
  | lastTop (z : Zone) : b.entries.getLast? = some z → floor ≤ z.top → Fails b floor supervisor 6 (b.zoneCount - 1)
  | landmark (n : Fin 64) : (b.landmarks[n]).present = true → floor * 1000 < (b.landmarks[n]).depth →
      Fails b floor supervisor 7 n.val
  | hoistRange (c : Chan) : (b.hoists.get c).inRange = false → Fails b floor supervisor 8 (chanNumber c)
  | accelerations (c : Chan) : (b.hoists.get c).aS < (b.hoists.get c).aR → Fails b floor supervisor 9 (chanNumber c)
  | speeds (c : Chan) :
      (b.hoists.get c).doubtful < (b.hoists.get c).crawl ∨ (b.hoists.get c).driveLimit < (b.hoists.get c).doubtful →
      Fails b floor supervisor 10 (chanNumber c)
  | address (c : Chan) :
      (b.hoists.get c).addr = 0xFF#8 ∨ (b.hoists.get c).addr = supervisor ∨ (b.hoists.get c).addr = b.shaft.signalling
        ∨ (∃ d, chanNumber d < chanNumber c ∧ (b.hoists.get d).addr = (b.hoists.get c).addr) →
      Fails b floor supervisor 11 (chanNumber c)

/-- A check of a scope fails: all of R16 on SHADOW for ALL, and for ZONES checks 3 to 6 on SHADOW's zone table with
the ACTIVE floor depth (R19). -/
def State.CheckFails (s : State) : Scope → (check entry : Nat) → Prop
  | .all, check, entry => s.shadow.Fails s.shadow.shaft.floor s.supervisor check entry
  | .zones, check, entry =>
    3 ≤ check ∧ check ≤ 6 ∧ s.shadow.Fails s.active.shaft.floor s.supervisor check entry

/-- The table of a check (R16). -/
def checkTable (check : Nat) : Table :=
  if check ≤ 2 then .shaft else if check ≤ 6 then .zones else if check = 7 then .landmarks else .hoists

/-- A check at an entry comes no later than another (R16): checks 1 to 7 by number, then the HOISTS records one by one
with their checks by number, and within a check the lower entry first. -/
def NoLater (check entry check' entry' : Nat) : Prop :=
  let place (k e : Nat) : Nat × Nat := if k < 8 then (k, e) else (8 + e, k)
  (place check entry).1 < (place check' entry').1
    ∨ ((place check entry).1 = (place check' entry').1 ∧ (place check entry).2 ≤ (place check' entry').2)

/-- What an INCONSISTENT reply names: the first check of the scope that fails, its lowest failing entry, and its table
(R16, R19). -/
structure State.FirstFailure (s : State) (scope : Scope) (y : Failure) : Prop where
  fails : s.CheckFails scope y.check y.entry
  first : ∀ check entry, s.CheckFails scope check entry → NoLater y.check y.entry check entry
  table : y.table = checkTable y.check

/-! ## Running commands one after another -/

/-- Run commands in order; `none` when one of them stops. -/
def runAll : List Instr → State → Option State
  | [], s => some s
  | c :: cs, s =>
    match exec c s with
    | .next t => runAll cs t
    | _ => none

/-- The bytes of a frame on the line, DEST first (R156). -/
def Frame.wire (f : Frame) : List Byte := f.body ++ [f.check]

/-! ## Invariants -/

/-- A port's queues, and the frame in reception (R155 to R161). -/
structure Port.Bounded (q : Port) : Prop where
  rxRoom : q.rx.length ≤ 8
  /-- Frames in the receive queue are complete and checked, their LEN at most 48. -/
  rxChecked : ∀ f ∈ q.rx, f.payload.length ≤ 48 ∧ crc8 f.body = f.check
  /-- A frame in reception is at most 53 bytes, its LEN at most 48. -/
  receivingRoom : q.receiving.length ≤ 4
    ∨ ((byteAt q.receiving 4).toNat ≤ 48 ∧ q.receiving.length ≤ (byteAt q.receiving 4).toNat + 5)
  huntingEmpty : q.hunting = true → q.receiving = []
  stuckEmpty : q.live = false → q.rx = [] ∧ q.tx = [] ∧ q.receiving = [] ∧ q.transmitting = none

/-- The queues of the part keep their bounds (R155, R163 to R165, R172), and while RESET_N is asserted the ports are
empty and the engine holds no activation, reservation or pending reset (R151, R177, R178). -/
structure State.QueuesBounded (s : State) : Prop where
  portU : s.portU.Bounded
  portD : s.portD.Bounded
  upPassing : s.portU.tx.countP TxEntry.isPassing ≤ 14
  upSlots : s.portU.tx.length + s.reserved.toNat ≤ 16
  upNoDrive : ∀ e ∈ s.portU.tx, ∀ c, e.kind ≠ .drive c
  downPassing : s.portD.tx.countP TxEntry.isPassing ≤ 12
  downDrives : ∀ c, s.portD.tx.countP (TxEntry.isDrive c) ≤ 1
  downNoReply : ∀ e ∈ s.portD.tx, e.kind ≠ .reply ∧ e.kind ≠ .resetReply
  requests : s.requests.length ≤ 4
  reservation : s.reserved = s.activation.isSome
  held : s.resetLine ≠ .negated → s.portU.rx = [] ∧ s.portU.tx = [] ∧ s.portD.rx = [] ∧ s.portD.tx = []
    ∧ s.reserved = false ∧ s.activation = none ∧ s.resetPending = none

/-- One reckoning record lies in its ranges (R20, R25, R31, R32), and a channel is GOOD exactly when its count of good
landmarks is 2 (section 2.4). -/
structure Reckoning.Sound (r : Reckoning) : Prop where
  depth : r.depth ≤ 2000000000
  history : r.history.length ≤ 8
  intervals : ∀ i ∈ r.history, 1 ≤ i ∧ i ≤ 10000000
  early : r.earlyCount ≤ 2
  load : r.load ≤ 65535
  goodCount : r.goodCount ≤ 2
  good : r.quality = .good ↔ r.goodCount = 2
  untrusted : r.quality = .unreferenced ∨ r.quality = .lost → r.goodCount = 0

/-- Every channel's reckoning record is sound. -/
def State.ReckoningSound (s : State) : Prop := ∀ c, (s.reckon c).Sound

/-- One gate's caps lie in their range and its output within them (R47, R54, R65, R66). -/
structure Gate.Sound (g : Gate) : Prop where
  downCap : g.downCap ≤ 32767
  upCap : g.upCap ≤ 32767
  down : g.out ≤ ((g.downCap * 1000 : Nat) : Int)
  up : -((g.upCap * 1000 : Nat) : Int) ≤ g.out

/-- Every channel's gate is sound. -/
def State.GatesSound (s : State) : Prop := ∀ c, (s.gate c).Sound

/-- The states that hold a current descriptor (R76). -/
def ChanState.holdsDescriptor : ChanState → Bool
  | .list | .suspended | .stopping .suspended => true
  | _ => false

/-- One controller's record fits its state: the save slot and the duration timer belong to INJECTED (R125), the
current descriptor to LIST, SUSPENDED and STOPPING to SUSPENDED (R76), the demand timer to TRAFFIC-LIVE (R81), the
prove timer to RELEASING phase PROVE and the brake confirm timer to the brake phases (R136, R137, R141), the dwell
timer to LIST phase DWELL (R108, R113), a carried dwell to a current descriptor in phase APPROACH (R131), the stall
watch to the watched states (R45). -/
structure Controller.Fits (k : Controller) : Prop where
  slot : k.slot.isSome = true ↔ k.state = .injected
  duration : k.duration.isSome = true ↔ k.state = .injected
  current : k.current.isSome = true ↔ k.state.holdsDescriptor = true
  demand : k.demand.isSome = true ↔ k.state = .trafficLive
  prove : k.prove.isSome = true ↔ k.state = .releasingProve
  brake : k.brake.isSome = true → k.state.confirming = true
  dwell : k.dwell.isSome = true → k.state = .list ∧ k.listPhase = .dwell
  carried : k.carried.isSome = true → k.current.isSome = true ∧ k.listPhase = .approach
  watch : k.watch.isSome = true → k.state.watched = true

/-- Controllers and configuration agree: without an ACTIVE hoist record a channel is UNCONFIGURED or TRIPPED and its
emission and feedback timers are stopped; with one it is not UNCONFIGURED, and outside a full reset its feedback timer
runs, and its emission timer in every state but TRAFFIC-LIVE (R3, R79, R80, R82, R147). -/
structure State.ControllersFit (s : State) : Prop where
  fits : ∀ c, (s.ctl c).Fits
  without : s.activeFilled = false → ∀ c, ((s.ctl c).state = .unconfigured ∨ (s.ctl c).state = .tripped)
    ∧ (s.ctl c).emission = none ∧ (s.ctl c).feedback = none
  configured : s.activeFilled = true → ∀ c, (s.ctl c).state ≠ .unconfigured
  timers : s.activeFilled = true → s.resetLine ≠ .fullReset → ∀ c, (s.ctl c).feedback.isSome = true
    ∧ ((s.ctl c).emission.isSome = true ↔ (s.ctl c).state ≠ .trafficLive)
  /-- From the beginning of a full reset to the release every channel is as R77 leaves it, and nothing is pending. -/
  asleep : s.resetLine = .fullReset → s.resetPending = none ∧ s.activation = none
    ∧ ∀ c, (s.ctl c).state = if s.activeFilled then .parkingSet else .unconfigured

/-- While the trip line is asserted every channel is TRIPPED, save between the beginning of a full reset and the
release of RESET_N (R148, R150); a reset that waits for its reply finds RESET_N negated (R153). -/
structure State.TripHolds (s : State) : Prop where
  tripped : s.tripLine = true → s.resetLine ≠ .fullReset → ∀ c, (s.ctl c).state = .tripped
  noReset : s.resetLine ≠ .negated → s.resetPending = none

/-- Every DRIVE frame waiting for a channel in a forced state carries speed 0, brake SET and mark FORCED (R72, R73);
and port D is empty while RESET_N is asserted. -/
structure State.ForcedFramesWait (s : State) : Prop where
  forced : ∀ e ∈ s.portD.tx, ∀ c, e.kind = .drive c → (s.ctl c).state.forced = true →
    e.frame.payload.take 4 = [0x00#8, 0x00#8, 0x01#8, 0x04#8]
  held : s.resetLine ≠ .negated → s.portD.tx = []

/-- Before the first successful ACTIVATE ALL the ACTIVE bank is the empty bank (R2, R3). -/
def State.UnfilledIsEmpty (s : State) : Prop := s.activeFilled = false → s.active = .empty

end Machine

end Sys2Proof
end

