-- ==== Sys2Proof/Certificates/Slice0/Obligations.lean ====
section
/-! DEFINITION. The statements for the provers. In every one of them `u` is the state `dt` µs later, at which the command
is taken; a next state given as an update of `u` leaves all the rest of the part as it was.

Two choices of the model stand under all of them and are no rule of the spec: each command brings its own µs (log 1), and
a request's operands are the bytes of the request at the head of the request queue (log 3). A statement that rests on a
further choice of the model names its log entry. -/

open Sys2Proof Sys2Proof.Machine

/-! ## The queue of commands and the clock -/

/-- A step runs the command at the front of the queue on the state with the queue's rest; on an empty queue it answers
the state as it stands (the model's choice, log 1). -/
def Obligations.StepRunsTheFrontCommand : Prop :=
  (∀ (c : Instr) (cs : List Instr) (s : State), step { s with pending := c :: cs } = exec c { s with pending := cs })
    ∧ ∀ s : State, s.pending = [] → step s = .next s

/-- Every command answers a next state, keeps the commands that wait, and brings the clock its own µs and one event.
The clock is the model's (log 1 and 5), and so is that a command whose event cannot happen (a timer not due, a row
whose request is not at the head) answers a next state all the same (log 2). -/
def Obligations.EveryCommandCompletesAndKeepsTheQueue : Prop :=
  ∀ (c : Instr) (s : State), ∃ t : State,
    exec c s = .next t ∧ t.pending = s.pending ∧ t.now = s.now + c.elapsed ∧ t.serial = s.serial + 1

/-! ## Resets -/

/-- Power-on reset (R154): every block at its power-on values, an asserted trip line taken as an assertion (R150); the
clock, the line's level and the waiting commands are kept, and RESET_N is taken as negated (log 8). -/
def Obligations.PowerOnResetSetsEveryBlock : Prop :=
  ∀ (dt : Nat) (straps : BitVec 4) (s : State),
    let m : Moment := ⟨s.now + dt, s.serial + 1⟩
    exec (.powerOnReset dt straps) s = .next
      { pending := s.pending, now := s.now + dt, serial := s.serial + 1, straps := straps, tripLine := s.tripLine,
        resetLine := .negated, active := .empty, shadow := .empty, activeFilled := false, shadowDiffers := false,
        descs := Vector.replicate 256 .initial,
        chans := .fill ⟨.initial, .initial, .initial (if s.tripLine then .tripped else .unconfigured) m, .empty⟩,
        portU := .initial (s.now + dt), portD := .initial (s.now + dt), reserved := false, requests := [],
        activation := none, freeze := false, resetPending := none,
        supNotes := ⟨if s.tripLine then 0x801#12 else 0x800#12, .absent⟩ }

/-- The assertion of RESET_N holds both ports and gives up an activation and a pending reset; its release within 20 ms
is a ring reset: the request queue and the ports are emptied, both ports are LIVE, RESET_DONE is raised, and channels,
reckoning, gate, freeze, notices and straps stay (R151, R153, R155, R172, R177, R178). -/
def Obligations.RingResetKeepsTheChannels : Prop :=
  (∀ (dt : Nat) (s : State), s.resetLine = .negated →
    exec (.resetNAssert dt) s = .next
      { s.advance dt with
        resetLine := .asserted (s.now + dt),
        portU := { s.portU with rx := [], tx := [], receiving := [], transmitting := none },
        portD := { s.portD with rx := [], tx := [], receiving := [], transmitting := none },
        reserved := false, activation := none, resetPending := none })
    ∧ (∀ (dt t₀ : Nat) (s : State), s.resetLine = .asserted t₀ → s.now + dt - t₀ < 20000 →
      exec (.ringReset dt) s = .next
        { s.advance dt with
          resetLine := .negated, portU := .initial (s.now + dt), portD := .initial (s.now + dt), reserved := false,
          requests := [], activation := none, resetPending := none,
          supNotes := s.supNotes.add SupKind.resetDone.bit })

/-- A full reset begins after 20 ms of RESET_N and is complete at the release (R22, R47, R77, R150, R152, R185): the
tables, the descriptors and the depths are kept; the channels start again in PARKING phase SET, or UNCONFIGURED; an
asserted trip line is then taken as an assertion. The strap levels come as the command's operand (log 20). -/
def Obligations.FullResetRestartsTheChannels : Prop :=
  (∀ (dt t₀ : Nat) (s : State), s.resetLine = .asserted t₀ → 20000 ≤ s.now + dt - t₀ →
    let u := s.advance dt
    exec (.fullResetBegin dt) s = .next
      { u.mapChans u.resetChan with
        resetLine := .fullReset, requests := [], activation := none, resetPending := none, freeze := false })
    ∧ (∀ (dt : Nat) (straps : BitVec 4) (s : State), s.resetLine = .fullReset →
      let u := s.advance dt
      let t := (u.mapChans u.releasedChan).refreshed straps
      exec (.fullResetComplete dt straps) s = .next (if s.tripLine then t.trippedAll else t))

/-- The engine takes a RESET (R153, R178): a well-formed one is answered OK and is pending; when its reply has left
port U or is lost, a ring reset takes place, or a full reset that begins and completes at that moment; a scope that
names neither is refused BAD_VALUE. How the departure of the reply is seen is the model's choice (log 13), that a full
reset's straps come as the command's operand too (log 20), and that the refusal is answered in both rows (log 3). -/
def Obligations.ResetRequestTakesPlaceAfterItsReply : Prop :=
  (∀ (dt : Nat) (s : State) (f : Frame) (rest : List Frame), s.Takes f rest → f.payload = [0x3F#8, 0x00#8] →
    exec (.resetRing dt) s = .next
      (({ s.taken dt rest with resetPending := some .ring } : State).repliedAs .resetReply f .ok []))
    ∧ (∀ (dt : Nat) (s : State) (f : Frame) (rest : List Frame), s.Takes f rest → f.payload = [0x3F#8, 0x01#8] →
      exec (.resetFull dt) s = .next
        (({ s.taken dt rest with resetPending := some .full } : State).repliedAs .resetReply f .ok []))
    ∧ (∀ (dt : Nat) (s : State) (f : Frame) (rest : List Frame) (scope : Byte), s.Takes f rest → 1 < scope.toNat →
      f.payload = [0x3F#8, scope] → ∀ row ∈ [Instr.resetRing dt, .resetFull dt],
        exec row s = .next ((s.taken dt rest).replied f .badValue []))
    ∧ (∀ (dt : Nat) (straps : BitVec 4) (s : State),
      (∀ e ∈ s.portU.tx, e.kind ≠ .resetReply) → (∀ e, s.portU.transmitting = some e → e.kind ≠ .resetReply) →
      let u := s.advance dt
      (s.resetPending = some .ring → exec (.resetTakesPlace dt straps) s = .next
        { u with
          resetLine := .negated, portU := .initial u.now, portD := .initial u.now, reserved := false, requests := [],
          activation := none, resetPending := none, supNotes := s.supNotes.add SupKind.resetDone.bit })
      ∧ (s.resetPending = some .full →
        let b : State :=
          { u.mapChans u.resetChan with requests := [], activation := none, resetPending := none, freeze := false }
        let t := (b.mapChans b.releasedChan).refreshed straps
        exec (.resetTakesPlace dt straps) s = .next (if s.tripLine then t.trippedAll else t)))

/-- The state after power-on reset satisfies every invariant stated below. -/
def Obligations.ResetStateSatisfiesTheInvariants : Prop :=
  State.reset.QueuesBounded ∧ State.reset.ReckoningSound ∧ State.reset.GatesSound ∧ State.reset.ControllersFit
    ∧ State.reset.TripHolds ∧ State.reset.ForcedFramesWait ∧ State.reset.UnfilledIsEmpty

/-! ## Invariants that every step keeps -/

/-- The queues keep their bounds, and the ports are empty while RESET_N is asserted (R155, R163 to R165, R172). -/
def Obligations.StepKeepsTheQueuesBounded : Prop :=
  ∀ s t : State, s.QueuesBounded → step s = .next t → t.QueuesBounded

/-- The reckoning records stay in their ranges, and a channel is GOOD exactly with two good landmarks (R20, R31, R32,
section 2.4). -/
def Obligations.StepKeepsTheReckoningSound : Prop :=
  ∀ s t : State, s.ReckoningSound → step s = .next t → t.ReckoningSound

/-- Every output stays within the caps kept with it, and these within 32,767 mm/s (R47, R54, R65, R66). -/
def Obligations.StepKeepsOutputsWithinTheirCaps : Prop :=
  ∀ s t : State, s.GatesSound → step s = .next t → t.GatesSound

/-- Every controller's record goes on fitting its state: save slot, current descriptor and timers (R76, R79 to R82,
R125). -/
def Obligations.StepKeepsControllersFittingTheirStates : Prop :=
  ∀ s t : State, s.ControllersFit → step s = .next t → t.ControllersFit

/-- While the trip line is asserted every channel stays TRIPPED, outside a full reset (R148, R150). -/
def Obligations.StepKeepsTheTripInForce : Prop :=
  ∀ s t : State, s.TripHolds → step s = .next t → t.TripHolds

/-- Every drive entry that waits for a channel in a forced state carries speed 0, brake SET and mark FORCED (R72,
R73). That passing DRIVE frames with the drive's address are no drive entries and stay as they are is deduced (log
10). -/
def Obligations.StepKeepsForcedFramesAtStandstill : Prop :=
  ∀ s t : State, s.ForcedFramesWait → step s = .next t → t.ForcedFramesWait

/-- The ACTIVE bank is empty until an ACTIVATE ALL has succeeded: an ACTIVATE ZONES cannot fill it before (R2, R3,
R19). -/
def Obligations.StepKeepsAnUnfilledBankEmpty : Prop :=
  ∀ s t : State, s.UnfilledIsEmpty → step s = .next t → t.UnfilledIsEmpty

/-! ## What no command does -/

/-- The ACTIVE bank is changed by the two completions and by power-on reset alone (R1); a descriptor by LIST_WRITE and
power-on reset alone, and one that is guarded not by LIST_WRITE (R103, R104, R105). -/
def Obligations.TablesAndListsChangeOnlyByTheirCommands : Prop :=
  ∀ (c : Instr) (s t : State), exec c s = .next t → (∀ dt straps, c ≠ .powerOnReset dt straps) →
    ((∀ dt, c ≠ .activateAllCompletion dt) → (∀ dt, c ≠ .activateZonesCompletion dt) →
      t.active = s.active ∧ t.activeFilled = s.activeFilled)
    ∧ ∀ i : Fin 256, s.guarded i = true ∨ (∀ dt, c ≠ .listWrite dt) → t.descs[i] = s.descs[i]

/-- No command turns an output to the opposite sign: it passes through 0 first (R64); while the freeze is set none
raises its magnitude (R53). -/
def Obligations.OutputsPassThroughZeroAndDoNotGrowInAFreeze : Prop :=
  ∀ (c : Instr) (s t : State) (ch : Chan), exec c s = .next t →
    0 ≤ (s.gate ch).out * (t.gate ch).out
    ∧ (s.freeze = true → (t.gate ch).out.natAbs ≤ (s.gate ch).out.natAbs)

/-! ## The speed gate -/

/-- The clamp (R62): within the caps the demand is the target, beyond them the nearer end; a cap of 0 stops its
direction, and the clamp neither turns the sign nor raises the magnitude. -/
def Obligations.ClampHoldsTheDemandWithinTheCaps : Prop :=
  ∀ (down up : Nat) (d : Int),
    let t := capTo down up d
    let lo : Int := -((up * 1000 : Nat) : Int)
    let hi : Int := ((down * 1000 : Nat) : Int)
    (lo ≤ d → d ≤ hi → t = d) ∧ (hi < d → t = hi) ∧ (d < lo → t = lo)
      ∧ (down = 0 → 0 ≤ d → t = 0) ∧ (up = 0 → d ≤ 0 → t = 0)
      ∧ t.natAbs ≤ d.natAbs ∧ 0 ≤ t * d

/-- Δt (R63): whole milliseconds of the time base since the previous evaluation, held to 1 to 250, and 1 when there
was none; every evaluation, one in a forced state too, sets the time from which the next runs. That milliseconds are
counted as ticks of a time base is deduced (log 4). -/
def Obligations.DeltaCountsMillisecondsBetweenEvaluations : Prop :=
  ∀ (s : State) (c : Chan),
    ((s.gate c).prevEval = none → s.delta c = 1)
    ∧ (∀ p, (s.gate c).prevEval = some p →
        (s.now / 1000 - p / 1000 < 1 → s.delta c = 1)
        ∧ (1 ≤ s.now / 1000 - p / 1000 → s.now / 1000 - p / 1000 ≤ 250 → s.delta c = s.now / 1000 - p / 1000)
        ∧ (250 < s.now / 1000 - p / 1000 → s.delta c = 250))
    ∧ ∀ src, ((s.evaluate c src).gate c).prevEval = some s.now

/-- The ramp (R64): the three cases, and what follows of them for every evaluation: the output does not cross 0, and
its magnitude grows by no more than a_r × Δt. -/
def Obligations.RampFollowsItsThreeCases : Prop :=
  (∀ (p t : Int) (growth fall : Nat),
    let r := ramp p t growth fall
    (t = 0 ∨ (0 < t ∧ p < 0) ∨ (t < 0 ∧ 0 < p) →
      r = if p.natAbs ≤ fall then 0 else if 0 < p then p - fall else p + fall)
    ∧ (0 < t → t ≤ p → r = if p - t ≤ fall then t else p - fall)
    ∧ (t < 0 → p ≤ t → r = if t - p ≤ fall then t else p + fall)
    ∧ (0 < t → 0 ≤ p → p < t → r = if t - p ≤ growth then t else p + growth)
    ∧ (t < 0 → p ≤ 0 → t < p → r = if p - t ≤ growth then t else p - growth))
  ∧ ∀ (s : State) (c : Chan) (src : Option Frame),
    0 ≤ (s.gate c).out * ((s.evaluate c src).gate c).out
    ∧ ((s.evaluate c src).gate c).out.natAbs ≤ (s.gate c).out.natAbs + (s.hoist c).aR * s.delta c

/-- Outside the forced states each cap is the least of its terms, and a term itself (R54 to R60, R6); in them both
caps are 0 (R61). -/
def Obligations.CapsAreTheLeastOfTheirTerms : Prop :=
  ∀ (s : State) (c : Chan),
    ((s.ctl c).state.forced = true → s.newDownCap c = 0 ∧ s.newUpCap c = 0)
    ∧ ((s.ctl c).state.forced = false → s.ZonesOrdered →
      (s.DownTerm c (s.newDownCap c) ∧ ∀ x, s.DownTerm c x → s.newDownCap c ≤ x)
      ∧ (s.UpTerm c (s.newUpCap c) ∧ ∀ x, s.UpTerm c x → s.newUpCap c ≤ x))

/-- An emission of a channel in UNCONFIGURED, PARKED, FAULT or TRIPPED (R49, R61, R65 to R69, R71): output and caps 0,
the frame with speed 0, brake SET and mark FORCED, the timer restarted, and an output that was not 0 sets the zero
moment. That timers expire at ticks of the time base is deduced (log 4). -/
def Obligations.ForcedEmissionCommandsStandstill : Prop :=
  ∀ (dt e : Nat) (s : State) (c : Chan), s.resetLine ≠ .fullReset → (s.ctl c).emission = some e →
    e ≤ (s.now + dt) / 1000 → (s.ctl c).state.forced = true →
    let u := s.advance dt
    exec (.emissionExpiry dt c) s = .next
      ((u.withChan c { u.chan c with
        gate := ⟨0, some u.now, 0, 0⟩,
        ctl := { u.ctl c with
          emission := some (u.ms + (u.hoist c).emission), watch := none,
          zeroMoment := if (u.gate c).out = 0 then (u.ctl c).zeroMoment else u.moment } }).handDrive c
        (u.ownFrame c 0 0x01#8 0x04#8))

/-- An emission in any other state than TRAFFIC-LIVE (R49 to R71): the demand of the state clamped, ramped and capped
again is the output, kept with the caps and the time; the originated frame carries it; no other channel is touched. In
LIST the record changes in the timer, the zero moment (R84), the watch (R45) and the evaluated mark (R111), and
arrival is tested after the evaluation (R112): it starts the dwell, or for a dwell of 0 completes the descriptor at
once (R114). Elsewhere it changes in the timer, the zero moment, the watch, RAMP's brake confirm timer where the
output reaches 0 (R136), and the limited mark of an injection; SLACK_ROPE and RESPONSE_LIMITED are raised as R128 and
R129 say. That timers expire at ticks of the time base is deduced (log 4); the list phase while no descriptor is
current is the model's choice (log 11). -/
def Obligations.EmissionEvaluatesTheChannel : Prop :=
  ∀ (dt e : Nat) (s : State) (c : Chan), s.resetLine ≠ .fullReset → (s.ctl c).emission = some e →
    e ≤ (s.now + dt) / 1000 → (s.ctl c).state.forced = false → (s.ctl c).state ≠ .trafficLive →
    s.tripLine = false →
    let u := s.advance dt
    let d := u.ownDemand c
    let down := u.newDownCap c
    let up := u.newUpCap c
    let t := heldWithin down up d
    let r := ramp (u.gate c).out t ((u.hoist c).aR * u.delta c) ((u.hoist c).aS * u.delta c)
    let n := heldWithin down up r
    let reached : Prop := (u.gate c).out ≠ 0 ∧ n = 0
    ((s.ctl c).state = .list →
      let frame := u.ownFrame c n (s.ctl c).state.brakeCommand.code (markOf d t r n)
      let k : Controller := { u.ctl c with
        emission := some (u.ms + (u.hoist c).emission), evaluated := true,
        zeroMoment := if reached then u.moment else (u.ctl c).zeroMoment,
        watch := if (u.hoist c).crawl * 1000 ≤ n.natAbs then
            (u.ctl c).watch.or (some ⟨u.now, (u.hoist c).toothHold⟩)
          else none }
      let e := u.withChan c { u.chan c with gate := ⟨n, some u.now, down, up⟩, ctl := k }
      let arrives (i : Fin 256) : Prop :=
        k.current = some i ∧ k.listPhase = .approach
          ∧ (((s.descs[i]).target : Int) - (((s.reckon c).depth / 1000 : Nat) : Int)).natAbs ≤ (s.hoist c).arrival
          ∧ n = 0 ∧ ∃ f, k.record = some f ∧ f.time.later k.zeroMoment = true
            ∧ f.actual.natAbs ≤ (s.hoist c).standstill
      let dwell (i : Fin 256) : Nat := k.carried.getD (s.descs[i]).dwell
      let answers (w : State) : Prop := exec (.emissionExpiry dt c) s = .next (w.handDrive c frame)
      ((∀ i, ¬ arrives i) → answers e)
      ∧ (∀ i, arrives i → dwell i ≠ 0 →
        answers (e.withCtl c { k with listPhase := .dwell, carried := none, dwell := some (u.ms + dwell i) }))
      ∧ (∀ i, arrives i → dwell i = 0 → e.Completes c i answers))
    ∧ ∃ v : State,
      exec (.emissionExpiry dt c) s = .next
        ((u.withChan c (v.chan c)).handDrive c
          (u.ownFrame c n (s.ctl c).state.brakeCommand.code (markOf d t r n)))
      ∧ (v.chan c).gate = ⟨n, some u.now, down, up⟩
      ∧ (v.chan c).reckon = u.reckon c
      ∧ ((s.ctl c).state ≠ .list →
        let injected : Prop := (s.ctl c).state = .injected
        let limited : Prop := injected ∧ (t ≠ d ∨ n ≠ r)
        let slack : Prop := injected ∧ ∀ f, (s.ctl c).record = some f → f.load < (u.hoist c).fMin
        let notes := if slack then (u.chan c).notes.add ChanKind.slackRope.bit else (u.chan c).notes
        (v.chan c).notes =
          (if limited ∧ (s.ctl c).limited = false then notes.add ChanKind.responseLimited.bit else notes)
        ∧ (v.chan c).ctl = { u.ctl c with
            emission := some (u.ms + (u.hoist c).emission),
            zeroMoment := if reached then u.moment else (u.ctl c).zeroMoment,
            limited := if limited then true else (u.ctl c).limited,
            brake := if (s.ctl c).state = .parkingRamp ∧ reached then some (u.ms + (u.hoist c).brakeConfirm)
              else (u.ctl c).brake,
            watch := if (s.ctl c).state.watched ∧ (u.hoist c).crawl * 1000 ≤ n.natAbs then
                (u.ctl c).watch.or (some ⟨u.now, (u.hoist c).toothHold⟩)
              else none })

/-- A dispatch DRIVE frame of LEN 5 for a channel in TRAFFIC (R48, R52, R53, R70, R81, R88): the channel is LIVE with
its demand timer restarted and its emission timer stopped; the frame, rewritten, carries the evaluation's result; a
brake command other than RUN makes the demand 0 and raises BRAKE_BY_TRAFFIC. The demand timer counts ticks (log 4). -/
def Obligations.DispatchFrameIsGatedAndForwarded : Prop :=
  ∀ (dt : Nat) (s : State) (c : Chan) (f : Frame) (rest : List Frame),
    s.resetLine = .negated → s.portU.rx = f :: rest → f.dest ≠ 0x00#8 → f.src ≠ 0x00#8 → f.dest ≠ s.supervisor →
    f.kind = 0x31#8 → s.activeFilled = true → (∀ d, (s.hoist d).addr = f.dest ↔ d = c) → f.payload.length = 5 →
    (s.ctl c).state = .trafficLive ∨ (s.ctl c).state = .trafficLapsed → s.tripLine = false →
    let u : State := { s.advance dt with portU := { s.portU with rx := rest } }
    let run : Prop := byteAt f.payload 2 = 0x00#8
    let d : Int := if run ∧ s.freeze = false then intAt f.payload 0 2 * 1000 else 0
    let down := u.newDownCap c
    let up := u.newUpCap c
    let t := heldWithin down up d
    let r := ramp (u.gate c).out t ((u.hoist c).aR * u.delta c) ((u.hoist c).aS * u.delta c)
    let n := heldWithin down up r
    exec (.classifyUpstreamFrame dt) s = .next
      ((u.withChan c { u.chan c with
        gate := ⟨n, some u.now, down, up⟩,
        notes := if run then (u.chan c).notes else (u.chan c).notes.add ChanKind.brakeByTraffic.bit,
        ctl := { u.ctl c with
          state := .trafficLive, emission := none, demand := some (u.ms + (u.hoist c).demandTimeout),
          zeroMoment := if (u.gate c).out ≠ 0 ∧ n = 0 then u.moment else (u.ctl c).zeroMoment,
          watch := if (u.hoist c).crawl * 1000 ≤ n.natAbs then
              (u.watchIn c .trafficLive).or (some ⟨u.now, (u.hoist c).toothHold⟩)
            else none } }).handDrive c
        (rewritten f n 0x00#8 (markOf d t r n)))

/-! ## The depth reckoner -/

/-- A tooth that reverses the direction or does not fall below the window's lower bound is applied (R25 to R27, R30 to
R32): the depth moves by the effective pitch within its limits, the interval enters the history, which a reversal
empties first, a running stall watch starts again; beyond a limit the depth is LOST. The least interval of 1 µs is
deduced (log 12). -/
def Obligations.ToothMovesTheDepth : Prop :=
  ∀ (dt : Nat) (s : State) (c : Chan) (high : Bool), s.resetLine ≠ .fullReset → s.activeFilled = true →
    let u := s.advance dt
    let h := u.hoist c
    let k := u.reckon c
    let dir : Direction := if high then .down else .up
    let i := match k.lastTooth with
      | none => 10000000
      | some t => max 1 (min 10000000 (u.now - t))
    let newest := k.history.drop (k.history.length - h.nr)
    let p := newest.sum / h.nr
    (k.lastDir ≠ some dir ∨ k.history.length < h.nr ∨ p - p * h.window / 64 ≤ i) →
    let pitch := h.pitch + h.pitch * (k.load * h.compliance / 1000) / 1000000
    let target : Int := if high then (k.depth : Int) + pitch else (k.depth : Int) - pitch
    let beyond : Prop := target < 0 ∨ 2000000000 < target
    let history := (if k.lastDir = some dir then k.history else []) ++ [i]
    exec (.toothEvent dt c high) s = .next
      (u.withChan c
        { u.chan c with
          reckon := { k with
            depth := if target < 0 then 0 else if 2000000000 < target then 2000000000 else target.toNat,
            history := history.drop (history.length - 8), lastTooth := some u.now, lastDir := some dir,
            earlyCount := 0, quality := if beyond then .lost else k.quality,
            goodCount := if beyond then 0 else k.goodCount },
          ctl := { u.ctl c with watch := (u.ctl c).watch.map fun _ => ⟨u.now, h.toothHold⟩ },
          notes := if beyond then (u.chan c).notes.add ChanKind.depthLost.bit else (u.chan c).notes })

/-- An early tooth (R28, R29): the first and the second in a row change the early count and the notices alone; the
third is applied, empties the history and leaves the depth LOST. The least interval of 1 µs is deduced (log 12). -/
def Obligations.EarlyTeethAreDiscardedTwice : Prop :=
  ∀ (dt : Nat) (s : State) (c : Chan) (high : Bool), s.resetLine ≠ .fullReset → s.activeFilled = true →
    let u := s.advance dt
    let h := u.hoist c
    let k := u.reckon c
    let dir : Direction := if high then .down else .up
    let i := match k.lastTooth with
      | none => 10000000
      | some t => max 1 (min 10000000 (u.now - t))
    let newest := k.history.drop (k.history.length - h.nr)
    let p := newest.sum / h.nr
    k.lastDir = some dir → h.nr ≤ k.history.length → i < p - p * h.window / 64 →
    let early (n : Nat) : Source 18 :=
      { (u.chan c).notes.add ChanKind.toothEarly.bit with
        detail := { (u.chan c).notes.detail with earlyTeeth := some n } }
    (k.earlyCount < 2 → exec (.toothEvent dt c high) s = .next
      (u.withChan c
        { u.chan c with reckon := { k with earlyCount := k.earlyCount + 1 }, notes := early (k.earlyCount + 1) }))
    ∧ (k.earlyCount = 2 →
      let pitch := h.pitch + h.pitch * (k.load * h.compliance / 1000) / 1000000
      let target : Int := if high then (k.depth : Int) + pitch else (k.depth : Int) - pitch
      exec (.toothEvent dt c high) s = .next
        (u.withChan c
          { u.chan c with
            reckon := { k with
              depth := if target < 0 then 0 else if 2000000000 < target then 2000000000 else target.toNat,
              history := [], lastTooth := some u.now, lastDir := some dir, earlyCount := 0, quality := .lost,
              goodCount := 0 },
            ctl := { u.ctl c with watch := (u.ctl c).watch.map fun _ => ⟨u.now, h.toothHold⟩ },
            notes := (early 3).add ChanKind.depthLost.bit }))

/-- What a landmark error of `e` µm does, by the quality before the event (R36, R37, R38, R39). -/
def Obligations.LandmarkErrorSnapsOrLoses : Prop :=
  ∀ (s : State) (c : Chan) (n : Fin 64) (e : Int),
    let k := s.reckon c
    let snapped : Nat :=
      if (k.depth : Int) + e < 0 then 0 else if 2000000000 < (k.depth : Int) + e then 2000000000
      else ((k.depth : Int) + e).toNat
    let known : Prop := k.quality = .good ∨ k.quality = .doubtful
    let snapLimit := (s.hoist c).snap * 1000
    let doubtLimit := (s.hoist c).doubt * 1000
    let told : Source 18 :=
      { (s.chan c).notes.add ChanKind.landmarkError.bit with
        detail := { (s.chan c).notes.detail with landmark := some (e.tdiv 1000, n.val) } }
    (k.quality = .unreferenced ∨ k.quality = .lost → s.takeError c n e =
      s.withChan c { s.chan c with reckon := { k with depth := snapped, quality := .doubtful, goodCount := 0 } })
    ∧ (known → e.natAbs ≤ snapLimit → s.takeError c n e =
      s.withChan c { s.chan c with
        reckon := { k with
          depth := snapped, goodCount := min 2 (k.goodCount + 1),
          quality := if 1 ≤ k.goodCount then .good else k.quality } })
    ∧ (known → snapLimit < e.natAbs → e.natAbs ≤ doubtLimit → s.takeError c n e =
      s.withChan c { s.chan c with
        reckon := { k with depth := snapped, quality := .doubtful, goodCount := 0 }, notes := told })
    ∧ (known → snapLimit < e.natAbs → doubtLimit < e.natAbs → s.takeError c n e =
      s.withChan c { s.chan c with
        reckon := { k with quality := .lost, goodCount := 0 }, notes := told.add ChanKind.depthLost.bit })

/-- A LANDMARK frame of LEN 4 from the signalling unit that is attributed to channel `c` (R33 to R35, R40): the
reckoner takes the error of its reference depth against the depth at the switch edge and records it, the event is
offered to the list, and the frame goes on. -/
def Obligations.LandmarkFrameIsReckoned : Prop :=
  ∀ (dt : Nat) (s : State) (f : Frame) (rest : List Frame) (c : Chan) (n : Fin 64),
    s.resetLine = .negated → s.portD.rx = f :: rest → f.dest ≠ 0x00#8 → f.src ≠ 0x00#8 → f.kind = 0x33#8 →
    f.src = s.active.shaft.signalling → f.payload.length = 4 → byteAt f.payload 0 = BitVec.ofNat 8 n.val →
    byteAt f.payload 1 = chanByte c → (s.active.landmarks[n]).present = true →
    (s.active.landmarks[n]).lane = laneOf c →
    let u : State := { s.advance dt with portD := { s.portD with rx := rest } }
    let m := s.active.landmarks[n]
    let k := u.reckon c
    let h := u.hoist c
    let age : Int := (natAt f.payload 2 2 : Nat)
    let pitch := h.pitch + h.pitch * (k.load * h.compliance / 1000) / 1000000
    let speed : Int := match k.history.getLast? with
      | none => 0
      | some i => ((pitch * 1000000 / i : Nat) : Int)
    let edge : Int := match k.lastDir with
      | some .down => m.depth + m.halfWidth
      | some .up => m.depth - m.halfWidth
      | none => m.depth
    let moved : Int := match k.lastDir with
      | some .down => (speed * age).tdiv 1000000
      | some .up => (-speed * age).tdiv 1000000
      | none => 0
    let e : Int := edge - ((k.depth : Int) - moved)
    let v := u.takeError c n e
    let w := v.withChan c { v.chan c with
      reckon := { v.reckon c with lastError := some (e.tdiv 1000), lastNumber := some n } }
    exec (.classifyDownstreamFrame dt) s = .next ((w.offerLandmark c n (e.tdiv 1000)).forwardUp f)

/-- A landmark offered to a channel's list (R115 to R118): a match in LIST, phase APPROACH, raises LANDMARK_MATCH and
acts by its action: NOTE, STOP_SELF, STOP_PAIR with what it does to the partner, SKIP to a successor by NEXT or LINK
that is let in or barred (R107, R109), and SKIP without one; every other offer changes nothing. What the list phase
holds while no descriptor is current is the model's choice (log 11), and so is the limited mark after an injection
ends (log 21). -/
def Obligations.LandmarkMatchActsOnTheList : Prop :=
  ∀ (s : State) (c : Chan) (n : Fin 64) (e : Int),
    let matches_ (i : Fin 256) (a : MatchAction) : Prop :=
      (s.ctl c).state = .list ∧ (s.ctl c).listPhase = .approach ∧ (s.ctl c).current = some i
        ∧ (s.descs[i]).watch = some (n, a)
    let told : Source 18 :=
      { (s.chan c).notes.add ChanKind.landmarkMatch.bit with
        detail := { (s.chan c).notes.detail with landmark := some (e, n.val) } }
    let q := partnerOf c
    ((∀ i a, ¬ matches_ i a) → s.offerLandmark c n e = s)
    ∧ (∀ i, matches_ i .note → s.offerLandmark c n e = s.withChan c { s.chan c with notes := told })
    ∧ (∀ i, matches_ i .stopSelf → s.offerLandmark c n e =
      s.withChan c { s.chan c with
        notes := told, ctl := s.suspendedCtl c i (s.ctl c).carried })
    ∧ (∀ i, matches_ i .stopPair →
      let t := s.withChan c { s.chan c with notes := told, ctl := s.suspendedCtl c i (s.ctl c).carried }
      ((s.ctl q).state = .trafficLive ∨ (s.ctl q).state = .trafficLapsed ∨ (s.ctl q).state = .list
          ∨ (s.ctl q).state = .injected ∨ (s.ctl q).state = .suspended →
        s.offerLandmark c n e = t.withCtl q (s.stoppedCtl q))
      ∧ ((s.ctl q).state = .held ∨ (∃ x, (s.ctl q).state = .stopping x) ∨ (s.ctl q).state = .parkingRamp
          ∨ (s.ctl q).state = .parkingSet ∨ (s.ctl q).state = .releasingProve ∨ (s.ctl q).state = .releasingOpen
          ∨ (s.ctl q).state.forced = true →
        s.offerLandmark c n e = t))
    ∧ (∀ i, matches_ i .skip → s.NoSuccessor i → s.offerLandmark c n e =
      s.withChan c { s.chan c with
        notes := told.add ChanKind.listEnd.bit, ctl := s.stoppedCtl c })
    ∧ (∀ i j, matches_ i .skip → s.Successor i j → s.Admits c (s.descs[j]) → s.offerLandmark c n e =
      s.withChan c { s.chan c with
        notes := told,
        ctl := { s.ctl c with
          current := some j, listPhase := .approach, evaluated := false, dwell := none, carried := none } })
    ∧ (∀ i j cause, matches_ i .skip → s.Successor i j → s.Bars c (s.descs[j]) cause → s.offerLandmark c n e =
      (s.withChan c { s.chan c with notes := told }).barredOn c j cause)

/-! ## The line ports -/

/-- Bytes, idle level and framing errors in reception (R156, R157, R158, R159), on a port that is LIVE and not held.
The lengths of the idle level come as operands (log 9). -/
def Obligations.ReceptionFollowsTheLine : Prop :=
  ∀ (dt : Nat) (s : State) (p : PortId), s.resetLine = .negated → (s.port p).live = true →
    let u := s.advance dt
    let b := (s.port p).receiving
    let cleared := u.modPort p fun q => { q with receiving := [] }
    let told (t : State) (k : SupKind) : State :=
      { t with supNotes := { t.supNotes.add k.bit with detail := { t.supNotes.detail with port := some p } } }
    let hunting := told (u.modPort p fun q => { q with receiving := [], hunting := true }) .lineCheck
    let full : Prop := 5 ≤ b.length ∧ b.length = (byteAt b 4).toNat + 5
    let f (check : Byte) : Frame :=
      ⟨byteAt b 0, byteAt b 1, byteAt b 2, byteAt b 3, b.drop 5, check⟩
    -- the CHECK byte
    (∀ check, (s.port p).hunting = false → full → crc8 (f check).body = check → (s.port p).rx.length < 8 →
      exec (.frameComplete dt p check) s = .next
        (u.modPort p fun q => { q with receiving := [], rx := q.rx ++ [f check] }))
    ∧ (∀ check, (s.port p).hunting = false → full → crc8 (f check).body = check → 8 ≤ (s.port p).rx.length →
      exec (.frameComplete dt p check) s = .next (told cleared .rxOverrun))
    ∧ (∀ check, (s.port p).hunting = false → full → crc8 (f check).body ≠ check →
      exec (.frameComplete dt p check) s = .next hunting)
    -- the LEN byte
    ∧ (∀ len : Byte, (s.port p).hunting = false → b.length = 4 → 48 < len.toNat →
      exec (.frameLenExceeded dt p len) s = .next hunting)
    -- any other byte
    ∧ (∀ x : Byte, (s.port p).hunting = false → ¬ full → (b.length = 4 → x.toNat ≤ 48) →
      exec (.frameByteReceived dt p x) s = .next (u.modPort p fun q => { q with receiving := b ++ [x] }))
    ∧ (∀ x : Byte, (s.port p).hunting = true → exec (.frameByteReceived dt p x) s = .next u)
    -- a stop bit at the break level
    ∧ (b ≠ [] → exec (.framingError dt p) s = .next hunting)
    ∧ (b = [] → exec (.framingError dt p) s = .next (u.modPort p fun q => { q with hunting := true }))
    -- the idle level
    ∧ (∀ idle, 200 < idle → b ≠ [] → exec (.frameCut dt p idle) s = .next (told cleared .frameCut))
    ∧ (∀ idle, 200 < idle →
      exec (.huntIdleClear dt p idle) s = .next (u.modPort p fun q => { q with hunting := false }))

/-- The bytes of a well-made frame of LEN at most 48, received one after another on a LIVE port with room, put exactly
that frame at the end of the receive queue (R156, R157, R159). That a byte given by the general row is judged by its
place in the frame is deduced (log 17). -/
def Obligations.FrameReceivedByteByByteIsQueued : Prop :=
  ∀ (s : State) (p : PortId) (f : Frame) (dt : Nat), s.resetLine = .negated → (s.port p).live = true →
    (s.port p).hunting = false → (s.port p).receiving = [] → (s.port p).rx.length < 8 → f.payload.length ≤ 48 →
    crc8 f.body = f.check →
    ∃ t : State, runAll (f.wire.map fun b => .frameByteReceived dt p b) s = some t
      ∧ t.port p = { s.port p with rx := (s.port p).rx ++ [f] }

/-- A break of more than 5 ms makes a port STUCK: its queues, the frame in reception and the frame in transmission are
lost, the hunting mark is cleared and LINE_STUCK is raised; the end of the break makes it LIVE with LINE_FREED; a
reset starts the break's time afresh (R155, R160, R161). The length of the break comes as an operand (log 9). -/
def Obligations.StuckPortLosesItsFramesUntilFreed : Prop :=
  ∀ (dt : Nat) (s : State) (p : PortId), s.resetLine = .negated →
    let u := s.advance dt
    let told (t : State) (k : SupKind) : State :=
      { t with supNotes := { t.supNotes.add k.bit with detail := { t.supNotes.detail with port := some p } } }
    (∀ held, (s.port p).live = true → 5000 < held → 5000 < u.now - (s.port p).liveSince →
      exec (.lineStuck dt p held) s = .next
        (told (u.modPort p fun q =>
          { q with live := false, rx := [], tx := [], receiving := [], transmitting := none, hunting := false })
          .lineStuck))
    ∧ ((s.port p).live = false →
      exec (.lineFreed dt p) s = .next (told (u.modPort p fun q => { q with live := true }) .lineFreed))

/-- A LIVE port with nothing in transmission takes the oldest frame of its queue, which is then in transmission until
its last byte has left (R162). How long a transmission takes is left out (log 15). -/
def Obligations.PortSendsItsOldestFrame : Prop :=
  ∀ (dt : Nat) (s : State) (p : PortId) (e : TxEntry) (rest : List TxEntry),
    let u := s.advance dt
    (s.resetLine = .negated → (s.port p).live = true → (s.port p).transmitting = none → (s.port p).tx = e :: rest →
      exec (.frameTransmitStart dt p) s = .next
        (u.modPort p fun q => { q with tx := rest, transmitting := some e }))
    ∧ ((s.port p).transmitting = some e →
      exec (.frameTransmitEnd dt p) s = .next (u.modPort p fun q => { q with transmitting := none }))

/-- How frames join the transmit queues (R161, R163, R164, R165): a passing frame within its bound or an overrun
notice, a drive frame in the place of the channel's waiting one or as the newest, nothing into a STUCK or held port.
-/
def Obligations.FramesJoinTheTransmitQueues : Prop :=
  ∀ (s : State) (f : Frame) (c : Chan),
    let openD : Prop := s.portD.live = true ∧ s.resetLine = .negated
    let openU : Prop := s.portU.live = true ∧ s.resetLine = .negated
    let roomU : Prop := s.portU.tx.countP TxEntry.isPassing < 14 ∧ s.portU.tx.length + s.reserved.toNat < 16
    let told (k : SupKind) (p : PortId) : State :=
      { s with supNotes := { s.supNotes.add k.bit with detail := { s.supNotes.detail with port := some p } } }
    (openD → s.portD.tx.countP TxEntry.isPassing < 12 →
      s.passDown f = { s with portD := { s.portD with tx := s.portD.tx ++ [⟨.passing, f⟩] } })
    ∧ (openD → 12 ≤ s.portD.tx.countP TxEntry.isPassing → s.passDown f = told .downOverrun .d)
    ∧ (¬ openD → s.passDown f = s ∧ s.handDrive c f = s)
    ∧ (openU → roomU → s.passUp f = { s with portU := { s.portU with tx := s.portU.tx ++ [⟨.passing, f⟩] } })
    ∧ (openU → ¬ roomU → s.passUp f = told .upOverrun .u)
    ∧ (¬ openU → s.passUp f = s)
    ∧ (openD → (∀ e ∈ s.portD.tx, e.kind ≠ .drive c) →
      s.handDrive c f = { s with portD := { s.portD with tx := s.portD.tx ++ [⟨.drive c, f⟩] } })
    ∧ (∀ (before after : List TxEntry) (old : Frame), openD → s.portD.tx = before ++ ⟨.drive c, old⟩ :: after →
      (∀ e ∈ before, e.kind ≠ .drive c) → (∀ e ∈ after, e.kind ≠ .drive c) →
      s.handDrive c f = { s with portD := { s.portD with tx := before ++ ⟨.drive c, f⟩ :: after } })

/-! ## The classifier -/

/-- Frames from port U (R166, R173): discarded, queued, answered QUEUE_FULL or lost, passed to port D (a broadcast of
any kind, DRIVE too), or, for a DRIVE frame that no channel in TRAFFIC awaits, consumed (R48). -/
def Obligations.UpstreamFramesAreDisposedOf : Prop :=
  ∀ (dt : Nat) (s : State) (f : Frame) (rest : List Frame), s.resetLine = .negated → s.portU.rx = f :: rest →
    let u : State := { s.advance dt with portU := { s.portU with rx := rest } }
    let queued : State := { u with requests := u.requests ++ [f] }
    let real : Prop := f.dest ≠ 0x00#8 ∧ f.src ≠ 0x00#8
    let request : Prop := f.kind = 0x3A#8
    let full : State :=
      if s.portU.tx.length + s.reserved.toNat < 16 ∧ s.portU.live = true then
        { u with portU := { u.portU with tx := u.portU.tx ++ [⟨.reply, Frame.sealed
          { dest := f.src, src := s.supervisor, kind := 0x3B#8, tag := f.tag,
            payload := [byteAt f.payload 0, 0x0D#8], check := 0x00#8 }⟩] } }
      else u
    (¬ real → exec (.classifyUpstreamFrame dt) s = .next u)
    ∧ (real → request → f.dest = s.supervisor → s.requests.length < 4 →
      exec (.classifyUpstreamFrame dt) s = .next queued)
    ∧ (real → request → f.dest = s.supervisor → 4 ≤ s.requests.length →
      exec (.classifyUpstreamFrame dt) s = .next full)
    ∧ (real → ¬ request → f.dest = s.supervisor → exec (.classifyUpstreamFrame dt) s = .next u)
    ∧ (real → request → f.dest = 0xFF#8 → s.requests.length < 4 →
      exec (.classifyUpstreamFrame dt) s = .next (queued.passDown f))
    ∧ (real → request → f.dest = 0xFF#8 → 4 ≤ s.requests.length →
      exec (.classifyUpstreamFrame dt) s = .next (full.passDown f))
    ∧ (real → f.dest ≠ s.supervisor → ¬ (f.dest = 0xFF#8 ∧ request) →
      (f.kind ≠ 0x31#8 ∨ s.activeFilled = false ∨ ∀ c, (s.hoist c).addr ≠ f.dest) →
      exec (.classifyUpstreamFrame dt) s = .next (u.passDown f))
    ∧ (∀ c, real → f.dest ≠ s.supervisor → f.kind = 0x31#8 → s.activeFilled = true →
      (∀ d, (s.hoist d).addr = f.dest ↔ d = c) →
      (f.payload.length ≠ 5 ∨ (s.ctl c).state ≠ .trafficLive ∧ (s.ctl c).state ≠ .trafficLapsed) →
      exec (.classifyUpstreamFrame dt) s = .next u)

/-- A FEEDBACK frame of a configured drive in a state that awaits nothing (R82, R83, R94, R168, R169), and every other
frame from port D that is not read: discarded, consumed, passed on, with BAD_FEEDBACK for a wrong LEN and
LANDMARK_UNKNOWN for a landmark that cannot be attributed: a wrong LEN, a number above 63, a channel above 3, an entry
that is not present or is of the other lane (R33, R167). -/
def Obligations.DownstreamFramesAreReadAndPassedOn : Prop :=
  (∀ (dt : Nat) (s : State) (f : Frame) (rest : List Frame) (c : Chan), s.FeedbackWaits f rest c →
    (s.ctl c).state = .tripped ∨ (s.ctl c).state = .fault
      ∨ (decodeDrive (byteAt f.payload 4) ≠ .fault
        ∧ ((s.ctl c).state = .parked ∨ (s.ctl c).state = .held ∨ (s.ctl c).state.isTraffic = true
          ∨ (s.ctl c).state = .suspended ∨ (s.ctl c).state = .injected ∨ (s.ctl c).state = .releasingProve)) →
    let v := s.feedbackRead dt rest c f
    exec (.classifyDownstreamFrame dt) s = .next (v.onward c f))
  ∧ (∀ (dt : Nat) (s : State) (f : Frame) (rest : List Frame), s.resetLine = .negated → s.portD.rx = f :: rest →
    let u : State := { s.advance dt with portD := { s.portD with rx := rest } }
    let passed (t : State) : State := if f.dest = s.supervisor then t else t.passUp f
    let real : Prop := f.dest ≠ 0x00#8 ∧ f.src ≠ 0x00#8
    let fromDrive : Prop := s.activeFilled = true ∧ ∃ c, (s.hoist c).addr = f.src
    (¬ real → exec (.classifyDownstreamFrame dt) s = .next u)
    ∧ (real → f.kind = 0x32#8 → fromDrive → f.payload.length ≠ 6 →
      exec (.classifyDownstreamFrame dt) s = .next (passed
        { u with supNotes := { u.supNotes.add SupKind.badFeedback.bit with
          detail := { u.supNotes.detail with port := some .d } } }))
    ∧ (real → f.kind = 0x33#8 → f.src = s.active.shaft.signalling → f.payload.length ≠ 4 →
      exec (.classifyDownstreamFrame dt) s = .next (passed
        { u with supNotes := u.supNotes.add SupKind.landmarkUnknown.bit }))
    ∧ (real → f.kind = 0x33#8 → f.src = s.active.shaft.signalling → f.payload.length = 4 →
      (63 < (byteAt f.payload 0).toNat ∨ 3 < (byteAt f.payload 1).toNat) →
      exec (.classifyDownstreamFrame dt) s = .next (passed
        { u with supNotes := { u.supNotes.add SupKind.landmarkUnknown.bit with
          detail := { u.supNotes.detail with landmark := some (0, (byteAt f.payload 0).toNat) } } }))
    ∧ (∀ (n : Fin 64) (c : Chan), real → f.kind = 0x33#8 → f.src = s.active.shaft.signalling → f.payload.length = 4 →
      byteAt f.payload 0 = BitVec.ofNat 8 n.val → byteAt f.payload 1 = chanByte c →
      (s.active.landmarks[n]).present = false ∨ (s.active.landmarks[n]).lane ≠ laneOf c →
      exec (.classifyDownstreamFrame dt) s = .next (passed
        { u with supNotes := { u.supNotes.add SupKind.landmarkUnknown.bit with
          detail := { u.supNotes.detail with landmark := some (0, n.val) } } }))
    ∧ (real → (f.kind ≠ 0x32#8 ∨ ¬ fromDrive) → (f.kind ≠ 0x33#8 ∨ f.src ≠ s.active.shaft.signalling) →
      exec (.classifyDownstreamFrame dt) s = .next (passed u)))

/-- What a FEEDBACK frame that reports no drive fault confirms (R91, R112, R136, R137, R141): a stop, RAMP's rest, a
set brake, a released brake, an arrival, which starts the dwell or, for a dwell of 0, completes the descriptor at once
(R114); rest outside the arrival window confirms nothing. The dwell timer counts ticks (log 4); at the confirmation of
PARKED passing DRIVE frames with the drive's address are not rewritten, which is deduced (log 10); the list phase
while no descriptor is current is the model's choice (log 11). -/
def Obligations.FeedbackConfirmsWhatTheChannelAwaits : Prop :=
  ∀ (dt : Nat) (s : State) (f : Frame) (rest : List Frame) (c : Chan), s.FeedbackWaits f rest c →
    decodeDrive (byteAt f.payload 4) ≠ .fault →
    let v := s.feedbackRead dt rest c f
    let k := v.ctl c
    let brake := decodeBrake (byteAt f.payload 5)
    let goesOn (w : State) : Prop := exec (.classifyDownstreamFrame dt) s = .next (w.onward c f)
    let atRest : Prop := (s.gate c).out = 0 ∧ v.moment.later k.zeroMoment = true
      ∧ (intAt f.payload 0 2).natAbs ≤ (s.hoist c).standstill
    let arrives (i : Fin 256) : Prop :=
      k.state = .list ∧ k.current = some i ∧ k.listPhase = .approach ∧ k.evaluated = true ∧ atRest
        ∧ (((s.descs[i]).target : Int) - (((s.reckon c).depth / 1000 : Nat) : Int)).natAbs ≤ (s.hoist c).arrival
    let dwell (i : Fin 256) : Nat := k.carried.getD (s.descs[i]).dwell
    (∀ d : Destination, k.state = .stopping d → atRest →
      goesOn (v.withCtl c { k with state := d.state, watch := none }))
    ∧ (∀ d : Destination, k.state = .stopping d → ¬ atRest → goesOn v)
    ∧ (k.state = .parkingRamp → atRest → goesOn (v.settingWith c (v.settingCtl c)))
    ∧ (k.state = .parkingRamp → ¬ atRest → goesOn v)
    ∧ (k.state = .parkingSet → brake = .set → goesOn
      ((v.withCtlNote c { k with state := .parked, brake := none, watch := none } .parked).forcing fun d => d == c))
    ∧ (k.state = .parkingSet → brake ≠ .set → goesOn v)
    ∧ (k.state = .releasingOpen → brake = .released → goesOn
      (v.withCtlNote c { k with state := .held, brake := none, watch := none } .released))
    ∧ (k.state = .releasingOpen → brake ≠ .released → goesOn v)
    ∧ (∀ i : Fin 256, arrives i → dwell i ≠ 0 → goesOn
        (v.withCtl c { k with listPhase := .dwell, carried := none, dwell := some (v.ms + dwell i) }))
    ∧ (∀ i : Fin 256, arrives i → dwell i = 0 → v.Completes c i goesOn)
    ∧ (k.state = .list → (∀ i : Fin 256, ¬ arrives i) → goesOn v)

/-- What takes a channel to FAULT (R46, R93, R94, R136, R137, R141): a drive fault in feedback, the stall watch, the
brake confirm timer, each with its notice. Both timers count ticks (log 4; the watch's reference, log 18). Passing
DRIVE frames with the drive's address are not rewritten, which is deduced (log 10); the list phase while no descriptor
is current is the model's choice (log 11), and so is the limited mark after an injection ends (log 21). -/
def Obligations.FaultsStopTheChannelOnItsBrakes : Prop :=
  (∀ (dt : Nat) (s : State) (f : Frame) (rest : List Frame) (c : Chan), s.FeedbackWaits f rest c →
    decodeDrive (byteAt f.payload 4) = .fault →
    (s.ctl c).state ≠ .unconfigured → (s.ctl c).state ≠ .tripped → (s.ctl c).state ≠ .fault →
    exec (.classifyDownstreamFrame dt) s = .next
      (((s.feedbackRead dt rest c f).faulted c .driveFault).onward c f))
  ∧ (∀ (dt : Nat) (s : State) (c : Chan) (w : StallWatch), s.resetLine ≠ .fullReset → (s.ctl c).watch = some w →
    (s.ctl c).state.watched = true → w.ref / 1000 + w.hold ≤ (s.now + dt) / 1000 →
    exec (.stallWatchExpiry dt c) s = .next ((s.advance dt).faulted c .stall))
  ∧ (∀ (dt e : Nat) (s : State) (c : Chan), s.resetLine ≠ .fullReset → (s.ctl c).brake = some e →
    (s.ctl c).state = .parkingRamp ∨ (s.ctl c).state = .parkingSet ∨ (s.ctl c).state = .releasingOpen →
    e ≤ (s.now + dt) / 1000 →
    exec (.brakeConfirmExpiry dt c) s = .next ((s.advance dt).faulted c .brakeTimeout))

/-! ## Timers -/

/-- The demand, feedback and prove timers (R82, R87, R140, R141): DEMAND_LOST and LAPSED; FEEDBACK_LOST and the timer
again; phase OPEN with the brake confirm timer. That timers expire at ticks of the time base is deduced (log 4), and
that the expiry of a timer that has not reached its tick does nothing is the model's choice (log 2). -/
def Obligations.ChannelTimersExpire : Prop :=
  ∀ (dt e : Nat) (s : State) (c : Chan), s.resetLine ≠ .fullReset →
    let u := s.advance dt
    let reached : Prop := e ≤ (s.now + dt) / 1000
    ((s.ctl c).demand = some e → (s.ctl c).state = .trafficLive → reached →
      exec (.demandTimerExpiry dt c) s = .next
        (u.withCtlNote c
          { u.ctl c with
            state := .trafficLapsed, demand := none, emission := some (u.ms + (u.hoist c).emission),
            watch := u.watchIn c .trafficLapsed } .demandLost))
    ∧ ((s.ctl c).feedback = some e → reached →
      exec (.feedbackTimerExpiry dt c) s = .next
        (u.withCtlNote c { u.ctl c with feedback := some (u.ms + (u.hoist c).demandTimeout) } .feedbackLost))
    ∧ ((s.ctl c).prove = some e → (s.ctl c).state = .releasingProve → reached →
      exec (.proveExpiry dt c) s = .next
        (u.withCtl c
          { u.ctl c with
            state := .releasingOpen, prove := none, brake := some (u.ms + (u.hoist c).brakeConfirm), watch := none }))
    ∧ ((s.ctl c).demand = some e → ¬ reached → exec (.demandTimerExpiry dt c) s = .next u)
    ∧ ((s.ctl c).feedback = some e → ¬ reached → exec (.feedbackTimerExpiry dt c) s = .next u)
    ∧ ((s.ctl c).prove = some e → ¬ reached → exec (.proveExpiry dt c) s = .next u)

/-- The dwell timer's expiry completes the current descriptor (R107, R108, R109, R114): MOVE_DONE where it asks for
it, then its successor where there is one, let in or barred for any of the three causes, or HELD with LIST_END. The
timer counts ticks (log 4); the list phase while no descriptor is current is the model's choice (log 11). -/
def Obligations.DwellExpiryCompletesTheDescriptor : Prop :=
  ∀ (dt e : Nat) (s : State) (c : Chan) (i : Fin 256), s.resetLine ≠ .fullReset → (s.ctl c).dwell = some e →
    e ≤ (s.now + dt) / 1000 → (s.ctl c).state = .list → (s.ctl c).listPhase = .dwell →
    (s.ctl c).current = some i →
    let u := s.advance dt
    u.Completes c i fun w => exec (.dwellExpiry dt c) s = .next w

/-- The duration timer's expiry ends the injection with RESPONSE_DONE and an empty slot, and the channel returns by
what the slot held (R130, R131, R132): LAPSED, the list resumed with its carried dwell, or a stop to HELD or
SUSPENDED. The timer counts ticks (log 4); the list phase while no descriptor is current is the model's choice (log
11), and so is the limited mark after an injection ends (log 21). -/
def Obligations.DurationExpiryReturnsTheChannel : Prop :=
  ∀ (dt e : Nat) (s : State) (c : Chan), s.resetLine ≠ .fullReset → (s.ctl c).duration = some e →
    e ≤ (s.now + dt) / 1000 → (s.ctl c).state = .injected →
    let u := s.advance dt
    let done (k : Controller) : State := u.withCtlNote c { k with slot := none, duration := none } .responseDone
    let ends (t : State) : Prop := exec (.durationExpiry dt c) s = .next t
    ((s.ctl c).slot = some .traffic →
      ends (done { u.ctl c with state := .trafficLapsed, watch := u.watchIn c .trafficLapsed }))
    ∧ (∀ i left, (s.ctl c).slot = some (.list i left) →
      ends (done { u.listedCtl c i with carried := left }))
    ∧ ((s.ctl c).slot = some .held → ends (done (u.stoppedCtl c)))
    ∧ (∀ i left, (s.ctl c).slot = some (.suspended i left) →
      ends (done { u.suspendedCtl c i left with evaluated := false }))

/-! ## The trip line -/

/-- An assertion takes every channel to TRIPPED, rewrites its waiting DRIVE frame and raises TRIP_ASSERTED; a negation
raises TRIP_NEGATED alone; while a full reset is in progress the level alone is kept (R147, R148, R150; the keeping of
the level is log 20). Passing DRIVE frames with a drive's address are not rewritten, which is deduced (log 10); the
list phase while no descriptor is current is the model's choice (log 11), and so is the limited mark after an
injection ends (log 21). -/
def Obligations.TripLineTakesEveryChannel : Prop :=
  ∀ (dt : Nat) (s : State),
    let u := s.advance dt
    (s.tripLine = false → s.resetLine ≠ .fullReset →
      exec (.tripAssertion dt) s = .next { u.trippedAll with tripLine := true })
    ∧ (s.tripLine = true → s.resetLine ≠ .fullReset →
      exec (.tripNegation dt) s = .next
        { u with tripLine := false, supNotes := u.supNotes.add SupKind.tripNegated.bit })
    ∧ (s.resetLine = .fullReset → exec (.tripAssertion dt) s = .next { u with tripLine := true })
    ∧ (s.resetLine = .fullReset → exec (.tripNegation dt) s = .next { u with tripLine := false })

/-! ## Requests on the supervisor -/

/-- STATUS (R180, section 8.7): nothing but the reply, whose 46 data bytes carry the supervisor's fields and the four
channels'. -/
def Obligations.StatusReportsThePart : Prop :=
  ∀ (dt : Nat) (s : State) (f : Frame) (rest : List Frame), s.Takes f rest → f.payload = [0x01#8] →
    s.ReckoningSound → s.GatesSound →
    ∃ d : List Byte,
      exec (.status dt) s = .next ((s.taken dt rest).replied f .ok d)
      ∧ d.length = 46
      ∧ (byteAt d 0).getLsbD 0 = s.freeze ∧ (byteAt d 0).getLsbD 1 = s.tripLine ∧ (byteAt d 0).getLsbD 2 = false
      ∧ (byteAt d 0).getLsbD 3 = s.shadowDiffers ∧ (byteAt d 0).getLsbD 4 = !s.portU.live
      ∧ (byteAt d 0).getLsbD 5 = !s.portD.live ∧ byteAt d 1 = s.supervisor
      ∧ ∀ c : Chan,
        let o := 2 + 11 * chanNumber c
        let k := s.ctl c
        let r := s.reckon c
        byteAt d o = k.state.byte
        ∧ (byteAt d (o + 1)).toNat % 4 = r.quality.code
        ∧ (byteAt d (o + 1)).getLsbD 2 = k.current.isSome
        ∧ (byteAt d (o + 1)).getLsbD 3 = k.slot.isSome
        ∧ (byteAt d (o + 1)).getLsbD 4 = r.lastNumber.isSome
        ∧ natAt d (o + 2) 3 = r.depth / 1000
        ∧ intAt d (o + 5) 2 = (s.gate c).out.tdiv 1000
        ∧ intAt d (o + 7) 2 = max (-32768) (min 32767 (r.lastError.getD 0))
        ∧ natAt d (o + 9) 1 = (r.lastNumber.map Fin.val).getD 0
        ∧ natAt d (o + 10) 1 = (k.current.map Fin.val).getD 0

/-- FETCH_NOTICES (R183): the source by the ACTIVE order mode is carried in the reply and emptied; with nothing
pending the reply names none and nothing changes. -/
def Obligations.FetchServesOneSourceAndEmptiesIt : Prop :=
  ∀ (dt : Nat) (s : State) (f : Frame) (rest : List Frame), s.Takes f rest → f.payload = [0x02#8] →
    (∀ c : Chan, s.Serves (.channel c) →
      exec (.fetchNotices dt) s = .next
        (((s.taken dt rest).withChan c { s.chan c with notes := ⟨0, ⟨none, none, none, none⟩⟩ }).replied f .ok
          (noticeData (BitVec.ofNat 8 (chanNumber c + 1)) ((s.chan c).notes.pending.setWidth 24)
            (s.chan c).notes.detail)))
    ∧ (s.Serves .supervisor →
      exec (.fetchNotices dt) s = .next
        (({ s.taken dt rest with supNotes := ⟨0, ⟨none, none, none, none⟩⟩ } : State).replied f .ok
          (noticeData 0x00#8 (s.supNotes.pending.setWidth 24) s.supNotes.detail)))
    ∧ (s.supNotes.pending = 0 → (∀ c, (s.chan c).notes.pending = 0) →
      exec (.fetchNotices dt) s = .next
        ((s.taken dt rest).replied f .ok (noticeData 0xFF#8 0 ⟨none, none, none, none⟩)))

/-- QUIESCE and THAW (R144, R145, R146): a conditional quiesce is granted or changes nothing; a forced one sets the
freeze and stops every channel in LIST, INJECTED, SUSPENDED or on its way to SUSPENDED; a mode that names neither is
refused BAD_VALUE; THAW clears the freeze. What the list phase holds while no descriptor is current is the model's
choice (log 11), and so are the limited mark after an injection ends (log 21) and that the refusal is answered in both
rows (log 3). -/
def Obligations.FreezeIsSetAndCleared : Prop :=
  ∀ (dt : Nat) (s : State) (f : Frame) (rest : List Frame), s.Takes f rest →
    let u := s.taken dt rest
    let blocks (c : Chan) : Prop :=
      (s.ctl c).state = .list ∨ (s.ctl c).state = .injected ∨ (∃ d, (s.ctl c).state = .stopping d)
        ∨ (s.ctl c).state = .parkingRamp ∨ (s.ctl c).state = .parkingSet ∨ (s.ctl c).state = .releasingProve
        ∨ (s.ctl c).state = .releasingOpen ∨ ((s.ctl c).state.isTraffic = true ∧ (s.gate c).out ≠ 0)
    let stopped (c : Chan) : Controller :=
      match (s.ctl c).state with
      | .list | .injected | .suspended => u.stoppedCtl c
      | .stopping .suspended =>
        { (u.ctl c).unlisted with state := .stopping .held, watch := u.watchIn c (.stopping .held) }
      | _ => u.ctl c
    (f.payload = [0x30#8, 0x00#8] → (∀ c, ¬ blocks c) →
      exec (.quiesceConditional dt) s = .next (({ u with freeze := true } : State).replied f .ok []))
    ∧ (f.payload = [0x30#8, 0x00#8] → (∃ c, blocks c) →
      exec (.quiesceConditional dt) s = .next (u.replied f .notGranted []))
    ∧ (f.payload = [0x30#8, 0x01#8] →
      exec (.quiesceForced dt) s = .next
        (({ u.mapChans fun c => { u.chan c with ctl := stopped c } with freeze := true } : State).replied f .ok []))
    ∧ (∀ mode : Byte, 1 < mode.toNat → f.payload = [0x30#8, mode] →
      ∀ row ∈ [Instr.quiesceConditional dt, .quiesceForced dt], exec row s = .next (u.replied f .badValue []))
    ∧ (f.payload = [0x31#8] →
      exec (.thaw dt) s = .next (({ u with freeze := false } : State).replied f .ok []))

/-- CLEAR_TRIP (R149, R138, R79): refused while the line is asserted; otherwise every TRIPPED channel comes to PARKING
phase SET with its output at 0, or to UNCONFIGURED without a hoist record, and the others stay. At the entry to
UNCONFIGURED passing DRIVE frames are not rewritten, which is deduced (log 10). -/
def Obligations.ClearTripParksTheTrippedChannels : Prop :=
  ∀ (dt : Nat) (s : State) (f : Frame) (rest : List Frame), s.Takes f rest → f.payload = [0x32#8] →
    let u := s.taken dt rest
    (s.tripLine = true → exec (.clearTrip dt) s = .next (u.replied f .tripActive []))
    ∧ (s.tripLine = false → s.activeFilled = true →
      exec (.clearTrip dt) s = .next
        ((u.mapChans fun c =>
          if (s.ctl c).state = .tripped then
            { u.chan c with ctl := u.settingCtl c, gate := { u.gate c with out := 0 } }
          else u.chan c).replied f .ok []))
    ∧ (s.tripLine = false → s.activeFilled = false →
      exec (.clearTrip dt) s = .next
        (((u.mapChans fun c =>
          if (s.ctl c).state = .tripped then
            { u.chan c with
              ctl := { u.ctl c with state := .unconfigured, emission := none, feedback := none, watch := none } }
          else u.chan c).forcing fun c => (s.ctl c).state == .tripped).replied f .ok []))

/-! ## Tables -/

/-- TABLE_WRITE (R4, R5, R7, R8, R9, R10, R11): with records in range SHADOW holds exactly those carried at the
entries addressed, and for ZONES the count carried, and the shadow-differs mark is set. A table that is none is
refused BAD_VALUE; then entries beyond the table BAD_INDEX; then bytes that are not those of records in range, or a
zone count of 0 or above 32, BAD_VALUE. -/
def Obligations.TableWriteStoresTheRecordsInShadow : Prop :=
  ∀ (dt : Nat) (s : State) (f : Frame) (rest : List Frame), s.Takes f rest →
    let writes (b : Bank) : Prop :=
      exec (.tableWrite dt) s = .next
        (({ s.taken dt rest with shadow := b, shadowDiffers := true } : State).replied f .ok [])
    let refused (r : Result) : Prop := exec (.tableWrite dt) s = .next ((s.taken dt rest).replied f r [])
    (∀ r : Shaft, r.inRange = true → f.payload = [0x10#8, 0x00#8, 0x00#8] ++ r.encode →
      writes { s.shadow with shaft := r })
    ∧ (∀ (first count : Nat) (zs : List Zone), 1 ≤ zs.length → zs.length ≤ 4 → first + zs.length ≤ 32 →
      1 ≤ count → count ≤ 32 → (∀ z ∈ zs, z.inRange = true) →
      f.payload = [0x10#8, 0x01#8, BitVec.ofNat 8 first, BitVec.ofNat 8 count] ++ (zs.map Zone.encode).flatten →
      ∃ v : Vector Zone 32,
        (∀ (k : Nat) (h : k < 32), (k < first ∨ first + zs.length ≤ k → v[k] = s.shadow.zones[k])
          ∧ (first ≤ k → k < first + zs.length → zs[k - first]? = some v[k]))
        ∧ writes { s.shadow with zoneCount := count, zones := v })
    ∧ (∀ (first : Nat) (ms : List Landmark), 1 ≤ ms.length → ms.length ≤ 5 → first + ms.length ≤ 64 →
      (∀ m ∈ ms, m.inRange = true) →
      f.payload = [0x10#8, 0x02#8, BitVec.ofNat 8 first] ++ (ms.map Landmark.encode).flatten →
      ∃ v : Vector Landmark 64,
        (∀ (k : Nat) (h : k < 64), (k < first ∨ first + ms.length ≤ k → v[k] = s.shadow.landmarks[k])
          ∧ (first ≤ k → k < first + ms.length → ms[k - first]? = some v[k]))
        ∧ writes { s.shadow with landmarks := v })
    ∧ (∀ (c : Chan) (h : Hoist), h.inRange = true →
      f.payload = [0x10#8, 0x03#8, chanByte c] ++ h.encode →
      writes { s.shadow with hoists := s.shadow.hoists.set c h })
    -- the table
    ∧ (∀ (table : Byte) (ops : List Byte), 3 < table.toNat → 1 ≤ ops.length → f.payload = [0x10#8, table] ++ ops →
      refused .badValue)
    -- the entries
    ∧ (∀ (first : Byte) (ops : List Byte),
      (0 < first.toNat → ops.length = 30 → f.payload = [0x10#8, 0x00#8, first] ++ ops → refused .badIndex)
      ∧ (∀ k, 1 ≤ k → k ≤ 4 → 32 < first.toNat + k → ops.length = 1 + 9 * k →
        f.payload = [0x10#8, 0x01#8, first] ++ ops → refused .badIndex)
      ∧ (∀ k, 1 ≤ k → k ≤ 5 → 64 < first.toNat + k → ops.length = 8 * k →
        f.payload = [0x10#8, 0x02#8, first] ++ ops → refused .badIndex)
      ∧ (3 < first.toNat → ops.length = 41 → f.payload = [0x10#8, 0x03#8, first] ++ ops → refused .badIndex))
    -- the fields
    ∧ (∀ (first count : Byte) (ops : List Byte),
      (ops.length = 30 → (∀ r : Shaft, r.inRange = true → ops ≠ r.encode) →
        f.payload = [0x10#8, 0x00#8, 0x00#8] ++ ops → refused .badValue)
      ∧ (∀ k, 1 ≤ k → k ≤ 4 → first.toNat + k ≤ 32 → ops.length = 9 * k →
        (count.toNat = 0 ∨ 32 < count.toNat
          ∨ ∀ zs : List Zone, (∀ z ∈ zs, z.inRange = true) → ops ≠ (zs.map Zone.encode).flatten) →
        f.payload = [0x10#8, 0x01#8, first, count] ++ ops → refused .badValue)
      ∧ (∀ k, 1 ≤ k → k ≤ 5 → first.toNat + k ≤ 64 → ops.length = 8 * k →
        (∀ ms : List Landmark, (∀ m ∈ ms, m.inRange = true) → ops ≠ (ms.map Landmark.encode).flatten) →
        f.payload = [0x10#8, 0x02#8, first] ++ ops → refused .badValue)
      ∧ (first.toNat ≤ 3 → ops.length = 41 → (∀ h : Hoist, h.inRange = true → ops ≠ h.encode) →
        f.payload = [0x10#8, 0x03#8, first] ++ ops → refused .badValue))

/-- TABLE_READ and LIST_READ (R12, R106): the reply carries the records addressed, whole and in order, as they stand,
and nothing else changes. A bank or table that is none is refused BAD_VALUE; then a count of 0, one that no reply
holds, and entries that do not all exist BAD_INDEX. -/
def Obligations.ReadsReplyWithTheRecordsAsTheyStand : Prop :=
  ∀ (dt : Nat) (s : State) (f : Frame) (rest : List Frame), s.Takes f rest →
    let u := s.taken dt rest
    (∀ (bank : Byte) (b : Bank), (bank = 0x00#8 ∧ b = s.active) ∨ (bank = 0x01#8 ∧ b = s.shadow) →
      let reads (data : List Byte) : Prop := exec (.tableRead dt) s = .next (u.replied f .ok data)
      (f.payload = [0x11#8, bank, 0x00#8, 0x00#8, 0x01#8] →
        reads ([bank, 0x00#8, 0x00#8, 0x01#8] ++ b.shaft.encode))
      ∧ (∀ first count : Nat, 1 ≤ count → count ≤ 4 → first + count ≤ 32 → b.zoneCount < 256 →
        f.payload = [0x11#8, bank, 0x01#8, BitVec.ofNat 8 first, BitVec.ofNat 8 count] →
        reads ([bank, 0x01#8, BitVec.ofNat 8 first, BitVec.ofNat 8 count, BitVec.ofNat 8 b.zoneCount]
          ++ (((b.zones.toList.drop first).take count).map Zone.encode).flatten))
      ∧ (∀ first count : Nat, 1 ≤ count → count ≤ 5 → first + count ≤ 64 →
        f.payload = [0x11#8, bank, 0x02#8, BitVec.ofNat 8 first, BitVec.ofNat 8 count] →
        reads ([bank, 0x02#8, BitVec.ofNat 8 first, BitVec.ofNat 8 count]
          ++ (((b.landmarks.toList.drop first).take count).map Landmark.encode).flatten))
      ∧ (∀ c : Chan, f.payload = [0x11#8, bank, 0x03#8, chanByte c, 0x01#8] →
        reads ([bank, 0x03#8, chanByte c, 0x01#8] ++ (b.hoists.get c).encode)))
    ∧ (∀ first count : Nat, 1 ≤ count → count ≤ 3 → first + count ≤ 256 →
      f.payload = [0x19#8, BitVec.ofNat 8 first, BitVec.ofNat 8 count] →
      exec (.listRead dt) s = .next
        (u.replied f .ok ([BitVec.ofNat 8 first, BitVec.ofNat 8 count]
          ++ (((s.descs.toList.drop first).take count).map Descriptor.encode).flatten)))
    ∧ (∀ bank table first count : Byte, f.payload = [0x11#8, bank, table, first, count] →
      let refused (r : Result) : Prop := exec (.tableRead dt) s = .next (u.replied f r [])
      let beyond (size most : Nat) : Prop :=
        count.toNat = 0 ∨ most < count.toNat ∨ size < first.toNat + count.toNat
      (1 < bank.toNat ∨ 3 < table.toNat → refused .badValue)
      ∧ (bank.toNat ≤ 1 →
        (table = 0x00#8 → beyond 1 1 → refused .badIndex) ∧ (table = 0x01#8 → beyond 32 4 → refused .badIndex)
        ∧ (table = 0x02#8 → beyond 64 5 → refused .badIndex) ∧ (table = 0x03#8 → beyond 4 1 → refused .badIndex)))
    ∧ (∀ first count : Byte, f.payload = [0x19#8, first, count] →
      count.toNat = 0 ∨ 3 < count.toNat ∨ 256 < first.toNat + count.toNat →
      exec (.listRead dt) s = .next (u.replied f .badIndex []))

/-- COPY_ACTIVE (R13): the whole SHADOW bank becomes the whole ACTIVE bank, the shadow-differs mark is cleared, the
reply is OK, and nothing else changes; before the first successful ACTIVATE ALL SHADOW is then the empty bank of R2.
-/
def Obligations.CopyActiveReplacesShadow : Prop :=
  ∀ (dt : Nat) (s : State) (f : Frame) (rest : List Frame), s.Takes f rest → f.payload = [0x12#8] →
    exec (.copyActive dt) s = .next
      (({ s.taken dt rest with shadow := s.active, shadowDiffers := false } : State).replied f .ok [])
    ∧ (s.activeFilled = false → s.UnfilledIsEmpty →
      exec (.copyActive dt) s = .next
        (({ s.taken dt rest with shadow := .empty, shadowDiffers := false } : State).replied f .ok []))

/-- The engine takes an ACTIVATE (R14, R19, R177): with a slot reserved it is in progress with its scope and the CRC
it expects; a scope that names neither is refused BAD_VALUE, and scope ALL MOVING when a channel is not in PARKED,
UNCONFIGURED or TRIPPED, both at the taking. That the CRC and the checks are left to the completion is the model's
choice (log 14), and so is that the refusal BAD_VALUE is answered in both rows (log 3). -/
def Obligations.ActivateIsTakenOrRefusedMoving : Prop :=
  ∀ (dt : Nat) (s : State) (f : Frame) (rest : List Frame) (hi lo : Byte), s.Takes f rest →
    let u := s.taken dt rest
    let begun (scope : Scope) : State := { u with reserved := true, activation := some ⟨scope, hi ++ lo, f⟩ }
    let still (c : Chan) : Prop :=
      (s.ctl c).state = .parked ∨ (s.ctl c).state = .unconfigured ∨ (s.ctl c).state = .tripped
    (f.payload = [0x13#8, 0x00#8, hi, lo] → (∀ c, still c) → exec (.activateAll dt) s = .next (begun .all))
    ∧ (f.payload = [0x13#8, 0x00#8, hi, lo] → (∃ c, ¬ still c) →
      exec (.activateAll dt) s = .next (u.replied f .moving (List.replicate 6 0x00#8)))
    ∧ (f.payload = [0x13#8, 0x01#8, hi, lo] → exec (.activateZones dt) s = .next (begun .zones))
    ∧ (∀ scope : Byte, 1 < scope.toNat → f.payload = [0x13#8, scope, hi, lo] →
      ∀ row ∈ [Instr.activateAll dt, .activateZones dt],
        exec row s = .next (u.replied f .badValue (List.replicate 6 0x00#8)))

/-- An activation's ending (R14 to R19, R177): with the CRC of SHADOW's image as expected and every check passed, the
tables of the scope replace ACTIVE's and, for scope ALL, the channels are configured and demoted; otherwise banks and
channels stay; in every case the mark is cleared and the reply appended, and an INCONSISTENT one names the first check
that fails (R16). That SHADOW is examined at the completion is the model's choice (log 14); that at the entry to
PARKED passing DRIVE frames with the new drive's address are not rewritten is deduced (log 10). -/
def Obligations.ActivationEndsWithOneReplacement : Prop :=
  ∀ (dt : Nat) (s : State) (scope : Scope) (x : BitVec 16) (f : Frame), s.resetLine = .negated →
    s.activation = some ⟨scope, x, f⟩ →
    let u : State := { s.advance dt with activation := none }
    let crc := crc16 (s.shadow.image scope)
    let crcBytes : List Byte := [BitVec.ofNat 8 (crc.toNat / 256), BitVec.ofNat 8 crc.toNat]
    let c : Instr := match scope with
      | .all => .activateAllCompletion dt
      | .zones => .activateZonesCompletion dt
    let a : State := { u with active := s.shadow, activeFilled := true, shadowDiffers := false }
    (crc ≠ x → exec c s = .next
      (u.replied f .checkMismatch ([0x01#8] ++ crcBytes ++ [0x00#8, 0x00#8, 0x00#8])))
    ∧ (∀ y : Failure, crc = x → s.FirstFailure scope y → exec c s = .next
      (u.replied f .inconsistent
        ([0x01#8] ++ crcBytes ++ [y.table.code, BitVec.ofNat 8 y.entry, BitVec.ofNat 8 y.check])))
    ∧ (crc = x → (∀ check entry, ¬ s.CheckFails scope check entry) → scope = .all → exec c s = .next
      (((a.mapChans fun d =>
          { a.chan d with reckon := (a.reckon d).demoted, ctl := a.configuredCtl s.activeFilled d }).forcing
            fun d => (s.ctl d).state == .unconfigured).replied f .ok
        ([0x01#8] ++ crcBytes ++ [0x00#8, 0x00#8, 0x00#8])))
    ∧ (crc = x → (∀ check entry, ¬ s.CheckFails scope check entry) → scope = .zones → exec c s = .next
      (({ u with active := { s.active with zoneCount := s.shadow.zoneCount, zones := s.shadow.zones } } : State).replied
        f .ok ([0x01#8] ++ crcBytes ++ [0x00#8, 0x00#8, 0x00#8])))

/-- The consistency checks (R16, R19): of scope ALL none fails exactly when the eleven conditions hold of the bank;
and for either scope what the part reports is the first check that fails with its lowest failing entry, and nothing
exactly when none fails. -/
def Obligations.ConsistencyChecksAreTheElevenConditions : Prop :=
  (∀ (b : Bank) (supervisor : Byte),
    let zs := b.entries
    let r := b.shaft
    allFailure b supervisor = none ↔
      r.inRange = true
      ∧ (r.laneA.top < r.laneA.bottom ∧ r.laneA.bottom ≤ r.floor
        ∧ r.laneB.top < r.laneB.bottom ∧ r.laneB.bottom ≤ r.floor)
      ∧ 1 ≤ b.zoneCount
      ∧ (∀ z, zs.head? = some z → z.top = 0)
      ∧ zs.Pairwise (fun z z' => z.top < z'.top)
      ∧ (∀ z, zs.getLast? = some z → z.top < r.floor)
      ∧ (∀ n : Fin 64, (b.landmarks[n]).present = true → (b.landmarks[n]).depth ≤ r.floor * 1000)
      ∧ ∀ c : Chan,
        let h := b.hoists.get c
        h.inRange = true ∧ h.aR ≤ h.aS ∧ h.crawl ≤ h.doubtful ∧ h.doubtful ≤ h.driveLimit
          ∧ h.addr ≠ 0xFF#8 ∧ h.addr ≠ supervisor ∧ h.addr ≠ r.signalling
          ∧ ∀ d : Chan, d ≠ c → (b.hoists.get d).addr ≠ h.addr)
  ∧ ∀ (s : State) (scope : Scope),
    (s.scopeFailure scope = none ↔ ∀ check entry, ¬ s.CheckFails scope check entry)
    ∧ ∀ y : Failure, s.scopeFailure scope = some y ↔ s.FirstFailure scope y

/-- Records survive the line (section 8.7): reading the bytes of a record in range gives the record, field for field,
for every table and for descriptors. -/
def Obligations.RecordsReadBackFromTheirBytes : Prop :=
  (∀ r : Shaft, r.inRange = true → decodeShaft r.encode = some r)
  ∧ (∀ z : Zone, z.inRange = true → decodeZone z.encode = some z)
  ∧ (∀ m : Landmark, m.inRange = true → decodeLandmark m.encode = some m)
  ∧ (∀ h : Hoist, h.inRange = true → decodeHoist h.encode = some h)
  ∧ (∀ d : Descriptor, d.inRange = true → decodeDescriptor d.encode = some d)

/-! ## Lists -/

/-- LIST_WRITE of one to three descriptors (R102, R104, R105): refused BAD_INDEX beyond index 255, then BAD_VALUE for
a field out of range, then IN_USE whole when one of the indices is guarded; otherwise each addressed descriptor is the
one carried and the others stay. -/
def Obligations.ListWriteReplacesUnguardedDescriptors : Prop :=
  ∀ (dt : Nat) (s : State) (f : Frame) (rest : List Frame), s.Takes f rest →
    let refused (r : Result) : Prop := exec (.listWrite dt) s = .next ((s.taken dt rest).replied f r [])
    (∀ (first : Nat) (ds : List Descriptor),
      1 ≤ ds.length → ds.length ≤ 3 → first + ds.length ≤ 256 → (∀ d ∈ ds, d.inRange = true) →
      f.payload = [0x18#8, BitVec.ofNat 8 first] ++ (ds.map Descriptor.encode).flatten →
      ((∃ i : Fin 256, first ≤ i.val ∧ i.val < first + ds.length ∧ s.guarded i = true) → refused .inUse)
      ∧ ((∀ i : Fin 256, first ≤ i.val → i.val < first + ds.length → s.guarded i = false) →
        ∃ v : Vector Descriptor 256,
          (∀ (k : Nat) (h : k < 256), (k < first ∨ first + ds.length ≤ k → v[k] = s.descs[k])
            ∧ (first ≤ k → k < first + ds.length → ds[k - first]? = some v[k]))
          ∧ exec (.listWrite dt) s = .next (({ s.taken dt rest with descs := v } : State).replied f .ok [])))
    ∧ ∀ (first : Byte) (k : Nat) (ops : List Byte), 1 ≤ k → k ≤ 3 → ops.length = 13 * k →
      f.payload = [0x18#8, first] ++ ops →
      (256 < first.toNat + k → refused .badIndex)
      ∧ (first.toNat + k ≤ 256 → (∃ j, j < k ∧ DescriptorBytesBad ((ops.drop (13 * j)).take 13)) →
        refused .badValue)

/-- START_LIST and CONTINUE (R97, R107 to R110, R120): into LIST with the named descriptor, or the successor of the
suspended one, current; one that is barred, for any of the three causes, is reported and stopped; without a successor
CONTINUE ends the list in HELD. What the list phase holds while no descriptor is current is the model's choice (log
11). -/
def Obligations.ListsStartAndContinue : Prop :=
  ∀ (dt : Nat) (s : State) (f : Frame) (rest : List Frame) (c : Chan), s.Takes f rest → s.freeze = false →
    let u := s.taken dt rest
    let st := (s.ctl c).state
    (∀ i : Fin 256, f.payload = [0x20#8, chanByte c, 0x00#8, BitVec.ofFin i] →
      st = .held ∨ st = .trafficLive ∨ st = .trafficLapsed ∨ st = .suspended →
      (s.Admits c (s.descs[i]) → exec (.startList dt) s = .next
        ((u.withCtl c { u.listedCtl c i with demand := none, emission := u.emissionOn c }).replied f .ok []))
      ∧ (∀ cause, s.Bars c (s.descs[i]) cause → exec (.startList dt) s = .next
        ((u.barredOn c i cause).replied f .ok [])))
    ∧ (∀ i : Fin 256, f.payload = [0x21#8, chanByte c] → st = .suspended → (s.ctl c).current = some i →
      (∀ j, s.Successor i j → s.Admits c (s.descs[j]) →
        exec (.continueList dt) s = .next ((u.withCtl c (u.listedCtl c j)).replied f .ok []))
      ∧ (∀ j cause, s.Successor i j → s.Bars c (s.descs[j]) cause →
        exec (.continueList dt) s = .next ((u.barredOn c j cause).replied f .ok []))
      ∧ (s.NoSuccessor i →
        exec (.continueList dt) s = .next
          ((u.withCtlNote c { (u.ctl c).unlisted with state := .held, watch := none } .listEnd).replied f .ok [])))

/-! ## Requests on a channel -/

/-- STOP in every state (R89, R91, R92): it stops a channel in TRAFFIC, LIST, INJECTED or SUSPENDED to HELD, turns a
stop toward SUSPENDED to HELD, and changes nothing elsewhere; the reply is OK. What the list phase holds while no
descriptor is current is the model's choice (log 11), and so is the limited mark after an injection ends (log 21). -/
def Obligations.StopIsAcceptedInEveryState : Prop :=
  ∀ (dt : Nat) (s : State) (f : Frame) (rest : List Frame) (c : Chan), s.Takes f rest →
    f.payload = [0x22#8, chanByte c] →
    let u := s.taken dt rest
    exec (.stop dt) s = .next
      ((match (s.ctl c).state with
        | .trafficLive | .trafficLapsed | .list | .injected | .suspended => u.withCtl c (u.stoppedCtl c)
        | .stopping .suspended =>
          u.withCtl c
            { (u.ctl c).unlisted with state := .stopping .held, watch := u.watchIn c (.stopping .held) }
        | _ => u).replied f .ok [])

/-- TRAFFIC from HELD and RELEASE from PARKED (R80, R81, R86, R140): LIVE with the demand timer; phase PROVE with the
prove timer, or phase OPEN at once for a prove time of 0. The timers count ticks (log 4). -/
def Obligations.TrafficAndReleaseStart : Prop :=
  ∀ (dt : Nat) (s : State) (f : Frame) (rest : List Frame) (c : Chan), s.Takes f rest → s.freeze = false →
    let u := s.taken dt rest
    let k := u.ctl c
    (f.payload = [0x23#8, chanByte c] → (s.ctl c).state = .held → exec (.traffic dt) s = .next
      ((u.withCtl c { k with
        state := .trafficLive, emission := none, demand := some (u.ms + (u.hoist c).demandTimeout),
        watch := u.watchIn c .trafficLive }).replied f .ok []))
    ∧ (f.payload = [0x26#8, chanByte c] → s.tripLine = false → (s.ctl c).state = .parked →
      exec (.release dt) s = .next
        ((u.withCtl c
          (if (s.hoist c).prove = 0 then
            { k with
              state := .releasingOpen, prove := none, brake := some (u.ms + (u.hoist c).brakeConfirm), watch := none }
          else { k with state := .releasingProve, prove := some (u.ms + (u.hoist c).prove), watch := none })).replied
          f .ok []))

/-- RESPOND (R123 to R126): a duration of 0 is refused BAD_VALUE, then FROZEN while the freeze is set, then STATE
where the grid does not accept it; otherwise power and duration are clamped, from TRAFFIC, HELD, LIST and SUSPENDED an
injection starts and the save slot records what it interrupted, with a dwell's remaining time, and in INJECTED power
and duration are replaced. The timers count ticks (log 4), a running dwell has at least 1 ms left (log 16), and the
list phase while no descriptor is current is the model's choice (log 11). -/
def Obligations.RespondStartsOrReplacesAnInjection : Prop :=
  ∀ (dt : Nat) (s : State) (f : Frame) (rest : List Frame) (c : Chan) (power : Int) (duration : Nat),
    s.Takes f rest → -2147483648 ≤ power → power < 2147483648 → duration < 4294967296 →
    f.payload = [0x24#8, chanByte c] ++ intBytes 4 power ++ natBytes 4 duration →
    let u := s.taken dt rest
    let st := (s.ctl c).state
    let p : Int := if power < -100000 then -100000 else if 100000 < power then 100000 else power
    let ends : Option Nat := some (u.ms + if 600000 < duration then 600000 else duration)
    let left : Option Nat := match (s.ctl c).dwell with
      | some e => some (max 1 (e - u.ms))
      | none => (s.ctl c).carried
    let starts (saved : Saved) : Prop := exec (.respond dt) s = .next
      ((u.withCtl c { (u.ctl c).unlisted with
        state := .injected, demand := none, emission := u.emissionOn c, slot := some saved, power := p,
        duration := ends, limited := false, watch := u.watchIn c .injected }).replied f .ok [])
    let refused (r : Result) : Prop := exec (.respond dt) s = .next (u.replied f r [])
    (duration = 0 → refused .badValue)
    ∧ (0 < duration → s.freeze = true → refused .frozen)
    ∧ (0 < duration → s.freeze = false →
      (st = .trafficLive ∨ st = .trafficLapsed → starts .traffic)
      ∧ (st = .held → starts .held)
      ∧ (∀ i, st = .list → (s.ctl c).current = some i → starts (.list i left))
      ∧ (∀ i, st = .suspended → (s.ctl c).current = some i → starts (.suspended i left))
      ∧ (st = .injected → exec (.respond dt) s = .next
        ((u.withCtl c { u.ctl c with power := p, duration := ends, limited := false }).replied f .ok []))
      ∧ (st.forced = true ∨ st = .releasingProve ∨ st = .releasingOpen ∨ (∃ d, st = .stopping d)
        ∨ st = .parkingRamp ∨ st = .parkingSet → refused .state))

/-- PARK in every state (R95, R98, R136 to R138): phase RAMP, on to SET where rest is confirmed, with the brake
confirm timer where the output is 0; phase SET from RELEASING and from a FAULT whose drive reports none; no change in
PARKED and PARKING; STATE elsewhere. The timers count ticks (log 4); the list phase while no descriptor is current is
the model's choice (log 11), and so is the limited mark after an injection ends (log 21). -/
def Obligations.ParkFollowsTheGrid : Prop :=
  ∀ (dt : Nat) (s : State) (f : Frame) (rest : List Frame) (c : Chan), s.Takes f rest →
    f.payload = [0x25#8, chanByte c] →
    let u := s.taken dt rest
    let st := (s.ctl c).state
    let given : Controller :=
      { (u.ctl c).bare with demand := none, prove := none, brake := none, watch := none, emission := u.emissionOn c }
    let ramping : Prop :=
      st = .held ∨ st.isTraffic = true ∨ st = .list ∨ st = .suspended ∨ st = .injected ∨ ∃ d, st = .stopping d
    let started := some (u.ms + (u.hoist c).brakeConfirm)
    let sound : Prop := ∀ r, (s.ctl c).record = some r → r.drive ≠ .fault
    let setting := { given with
      state := .parkingSet, brake := started,
      zeroMoment := if (s.gate c).out = 0 then (s.ctl c).zeroMoment else u.moment }
    let answers (t : State) (r : Result) : Prop := exec (.park dt) s = .next (t.replied f r [])
    (ramping → (s.gate c).out ≠ 0 → answers (u.withCtl c { given with state := .parkingRamp }) .ok)
    ∧ (ramping → (s.gate c).out = 0 → s.rest c = false →
      answers (u.withCtl c { given with state := .parkingRamp, brake := started }) .ok)
    ∧ (ramping → s.rest c = true → answers (u.settingWith c setting) .ok)
    ∧ (st = .releasingProve ∨ st = .releasingOpen ∨ (st = .fault ∧ sound) → answers (u.settingWith c setting) .ok)
    ∧ (st = .fault ∧ ¬ sound → answers u .state)
    ∧ (st = .parked ∨ st = .parkingRamp ∨ st = .parkingSet → answers u .ok)
    ∧ (st = .unconfigured ∨ st = .tripped → answers u .state)

/-- SET_DEPTH (R43, R44): in every state, a channel above 3 is refused BAD_CHANNEL; then a depth above 2,000,000 mm
BAD_VALUE; then an output that is not 0 MOVING; otherwise the depth is taken, DOUBTFUL, both counts 0, and the rest of
the reckoning record stays. -/
def Obligations.SetDepthGivesADoubtfulDepth : Prop :=
  ∀ (dt : Nat) (s : State) (f : Frame) (rest : List Frame) (mm : Nat), s.Takes f rest → mm < 4294967296 →
    let u := s.taken dt rest
    (∀ ch : Byte, 3 < ch.toNat → f.payload = [0x27#8, ch] ++ natBytes 4 mm →
      exec (.setDepth dt) s = .next (u.replied f .badChannel []))
    ∧ ∀ c : Chan, f.payload = [0x27#8, chanByte c] ++ natBytes 4 mm →
      (2000000 < mm → exec (.setDepth dt) s = .next (u.replied f .badValue []))
      ∧ (mm ≤ 2000000 → (s.gate c).out ≠ 0 → exec (.setDepth dt) s = .next (u.replied f .moving []))
      ∧ (mm ≤ 2000000 → (s.gate c).out = 0 → exec (.setDepth dt) s = .next
        ((u.withChan c { u.chan c with
          reckon := { u.reckon c with depth := mm * 1000, quality := .doubtful, goodCount := 0, earlyCount := 0 }
          }).replied f .ok []))

/-- Refusals by the common checks and by the grid of section 4.8 change nothing but the request queue and port U's
reply (R96, R110, R140, R175, R176): an unknown code or none, a wrong LEN of any request, a channel above 3 in any
request that names one, an index above 255 in START_LIST, the freeze, the trip line, and the states that the grid
marks STATE for START_LIST, CONTINUE, TRAFFIC and RELEASE. Each other refusal stands with its request. That a wrong
LEN of ACTIVATE, QUIESCE and RESET is answered in both rows is the model's choice (log 3). -/
def Obligations.RefusedRequestsChangeNothing : Prop :=
  ∀ (dt : Nat) (s : State) (f : Frame) (rest : List Frame), s.Takes f rest →
    let u := s.taken dt rest
    let refused (c : Instr) (r : Result) : Prop := exec c s = .next (u.replied f r [])
    (f.payload = [] → refused (.unknownRequest dt) .badRequest)
    ∧ (∀ code ops, f.payload = code :: ops → (∀ row ∈ requestRows dt, row.1 ≠ code) →
      refused (.unknownRequest dt) .badRequest)
    ∧ (∀ row ∈ requestRows dt, ∀ ops, f.payload = row.1 :: ops →
      (¬ LenMatches f.payload → refused row.2 .badRequest)
      ∧ (LenMatches f.payload → namesChannel row.1 → 3 < (byteAt f.payload 1).toNat → refused row.2 .badChannel))
    ∧ (∀ (c : Chan) (hi lo : Byte), f.payload = [0x20#8, chanByte c, hi, lo] → 0 < hi.toNat →
      refused (.startList dt) .badIndex)
    ∧ (∀ c : Chan,
      let st := (s.ctl c).state
      (s.freeze = true →
        (f.payload = [0x21#8, chanByte c] → refused (.continueList dt) .frozen)
        ∧ (f.payload = [0x23#8, chanByte c] → refused (.traffic dt) .frozen)
        ∧ (f.payload = [0x26#8, chanByte c] → s.tripLine = false → refused (.release dt) .frozen)
        ∧ (∀ i : Fin 256, f.payload = [0x20#8, chanByte c, 0x00#8, BitVec.ofFin i] →
          refused (.startList dt) .frozen))
      ∧ (s.tripLine = true → f.payload = [0x26#8, chanByte c] → refused (.release dt) .tripActive)
      ∧ (s.freeze = false →
        (f.payload = [0x21#8, chanByte c] → st ≠ .suspended → refused (.continueList dt) .state)
        ∧ (f.payload = [0x23#8, chanByte c] → st ≠ .held → refused (.traffic dt) .state)
        ∧ (f.payload = [0x26#8, chanByte c] → s.tripLine = false → st ≠ .parked → refused (.release dt) .state)
        ∧ (∀ i : Fin 256, f.payload = [0x20#8, chanByte c, 0x00#8, BitVec.ofFin i] → st ≠ .held →
          st.isTraffic = false → st ≠ .suspended → refused (.startList dt) .state)))
end

