-- ==== Sys2Proof/Laws/State.lean ====
section
/-! SUPPORT. One lemma per field per update of the state, true by unfolding, and the laws of a channel's and a
port's place in it; later proofs rewrite with these and unfold no record update. -/

namespace Sys2Proof.Machine

/-! ## One value per channel -/

@[simp] theorem Quad.get_set_same {α : Type} (q : Quad α) (c : Chan) (x : α) : (q.set c x).get c = x := by
  cases c <;> rfl

theorem Quad.get_set_ne {α : Type} (q : Quad α) {c d : Chan} (x : α) (h : d ≠ c) : (q.set c x).get d = q.get d := by
  cases c <;> cases d <;> first | rfl | exact absurd rfl h

@[simp] theorem Quad.get_fill {α : Type} (x : α) (c : Chan) : (Quad.fill x).get c = x := by cases c <;> rfl

@[simp] theorem Quad.set_get {α : Type} (q : Quad α) (c : Chan) : q.set c (q.get c) = q := by cases c <;> rfl

@[simp] theorem Quad.set_set {α : Type} (q : Quad α) (c : Chan) (x y : α) : (q.set c x).set c y = q.set c y := by
  cases c <;> rfl

theorem Quad.ext_get {α : Type} {p q : Quad α} (h : ∀ c, p.get c = q.get c) : p = q := by
  obtain ⟨a0, a1, a2, a3⟩ := p
  obtain ⟨b0, b1, b2, b3⟩ := q
  have h0 := h .c0
  have h1 := h .c1
  have h2 := h .c2
  have h3 := h .c3
  simp only [Quad.get] at h0 h1 h2 h3
  subst h0 h1 h2 h3
  rfl

@[simp] theorem mem_allChans (c : Chan) : c ∈ allChans := by cases c <;> decide

@[simp] theorem partnerOf_partnerOf (c : Chan) : partnerOf (partnerOf c) = c := by cases c <;> rfl

@[simp] theorem partnerOf_ne (c : Chan) : partnerOf c ≠ c := by cases c <;> decide

@[simp] theorem ne_partnerOf (c : Chan) : c ≠ partnerOf c := by cases c <;> decide

@[simp] theorem chanOf_chanNumber (c : Chan) : chanOf (chanNumber c) = some c := by cases c <;> rfl

/-! ## `advance` -/

@[simp] theorem State.advance_pending (s : State) (dt : Nat) : (s.advance dt).pending = s.pending := rfl

@[simp] theorem State.advance_straps (s : State) (dt : Nat) : (s.advance dt).straps = s.straps := rfl

@[simp] theorem State.advance_tripLine (s : State) (dt : Nat) : (s.advance dt).tripLine = s.tripLine := rfl

@[simp] theorem State.advance_resetLine (s : State) (dt : Nat) : (s.advance dt).resetLine = s.resetLine := rfl

@[simp] theorem State.advance_active (s : State) (dt : Nat) : (s.advance dt).active = s.active := rfl

@[simp] theorem State.advance_shadow (s : State) (dt : Nat) : (s.advance dt).shadow = s.shadow := rfl

@[simp] theorem State.advance_activeFilled (s : State) (dt : Nat) : (s.advance dt).activeFilled = s.activeFilled := rfl

@[simp] theorem State.advance_shadowDiffers (s : State) (dt : Nat) : (s.advance dt).shadowDiffers = s.shadowDiffers := rfl

@[simp] theorem State.advance_descs (s : State) (dt : Nat) : (s.advance dt).descs = s.descs := rfl

@[simp] theorem State.advance_chans (s : State) (dt : Nat) : (s.advance dt).chans = s.chans := rfl

@[simp] theorem State.advance_portU (s : State) (dt : Nat) : (s.advance dt).portU = s.portU := rfl

@[simp] theorem State.advance_portD (s : State) (dt : Nat) : (s.advance dt).portD = s.portD := rfl

@[simp] theorem State.advance_reserved (s : State) (dt : Nat) : (s.advance dt).reserved = s.reserved := rfl

@[simp] theorem State.advance_requests (s : State) (dt : Nat) : (s.advance dt).requests = s.requests := rfl

@[simp] theorem State.advance_activation (s : State) (dt : Nat) : (s.advance dt).activation = s.activation := rfl

@[simp] theorem State.advance_freeze (s : State) (dt : Nat) : (s.advance dt).freeze = s.freeze := rfl

@[simp] theorem State.advance_resetPending (s : State) (dt : Nat) : (s.advance dt).resetPending = s.resetPending := rfl

@[simp] theorem State.advance_supNotes (s : State) (dt : Nat) : (s.advance dt).supNotes = s.supNotes := rfl

@[simp] theorem State.advance_now (s : State) (dt : Nat) : (s.advance dt).now = s.now + dt := rfl

@[simp] theorem State.advance_serial (s : State) (dt : Nat) : (s.advance dt).serial = s.serial + 1 := rfl

/-! ## `modChan` -/

@[simp] theorem State.modChan_pending (s : State) (c : Chan) (f : Channel → Channel) : (s.modChan c f).pending = s.pending := rfl

@[simp] theorem State.modChan_now (s : State) (c : Chan) (f : Channel → Channel) : (s.modChan c f).now = s.now := rfl

@[simp] theorem State.modChan_serial (s : State) (c : Chan) (f : Channel → Channel) : (s.modChan c f).serial = s.serial := rfl

@[simp] theorem State.modChan_straps (s : State) (c : Chan) (f : Channel → Channel) : (s.modChan c f).straps = s.straps := rfl

@[simp] theorem State.modChan_tripLine (s : State) (c : Chan) (f : Channel → Channel) : (s.modChan c f).tripLine = s.tripLine := rfl

@[simp] theorem State.modChan_resetLine (s : State) (c : Chan) (f : Channel → Channel) : (s.modChan c f).resetLine = s.resetLine := rfl

@[simp] theorem State.modChan_active (s : State) (c : Chan) (f : Channel → Channel) : (s.modChan c f).active = s.active := rfl

@[simp] theorem State.modChan_shadow (s : State) (c : Chan) (f : Channel → Channel) : (s.modChan c f).shadow = s.shadow := rfl

@[simp] theorem State.modChan_activeFilled (s : State) (c : Chan) (f : Channel → Channel) : (s.modChan c f).activeFilled = s.activeFilled := rfl

@[simp] theorem State.modChan_shadowDiffers (s : State) (c : Chan) (f : Channel → Channel) : (s.modChan c f).shadowDiffers = s.shadowDiffers := rfl

@[simp] theorem State.modChan_descs (s : State) (c : Chan) (f : Channel → Channel) : (s.modChan c f).descs = s.descs := rfl

@[simp] theorem State.modChan_portU (s : State) (c : Chan) (f : Channel → Channel) : (s.modChan c f).portU = s.portU := rfl

@[simp] theorem State.modChan_portD (s : State) (c : Chan) (f : Channel → Channel) : (s.modChan c f).portD = s.portD := rfl

@[simp] theorem State.modChan_reserved (s : State) (c : Chan) (f : Channel → Channel) : (s.modChan c f).reserved = s.reserved := rfl

@[simp] theorem State.modChan_requests (s : State) (c : Chan) (f : Channel → Channel) : (s.modChan c f).requests = s.requests := rfl

@[simp] theorem State.modChan_activation (s : State) (c : Chan) (f : Channel → Channel) : (s.modChan c f).activation = s.activation := rfl

@[simp] theorem State.modChan_freeze (s : State) (c : Chan) (f : Channel → Channel) : (s.modChan c f).freeze = s.freeze := rfl

@[simp] theorem State.modChan_resetPending (s : State) (c : Chan) (f : Channel → Channel) : (s.modChan c f).resetPending = s.resetPending := rfl

@[simp] theorem State.modChan_supNotes (s : State) (c : Chan) (f : Channel → Channel) : (s.modChan c f).supNotes = s.supNotes := rfl

/-! ## `modCtl` -/

@[simp] theorem State.modCtl_pending (s : State) (c : Chan) (f : Controller → Controller) : (s.modCtl c f).pending = s.pending := rfl

@[simp] theorem State.modCtl_now (s : State) (c : Chan) (f : Controller → Controller) : (s.modCtl c f).now = s.now := rfl

@[simp] theorem State.modCtl_serial (s : State) (c : Chan) (f : Controller → Controller) : (s.modCtl c f).serial = s.serial := rfl

@[simp] theorem State.modCtl_straps (s : State) (c : Chan) (f : Controller → Controller) : (s.modCtl c f).straps = s.straps := rfl

@[simp] theorem State.modCtl_tripLine (s : State) (c : Chan) (f : Controller → Controller) : (s.modCtl c f).tripLine = s.tripLine := rfl

@[simp] theorem State.modCtl_resetLine (s : State) (c : Chan) (f : Controller → Controller) : (s.modCtl c f).resetLine = s.resetLine := rfl

@[simp] theorem State.modCtl_active (s : State) (c : Chan) (f : Controller → Controller) : (s.modCtl c f).active = s.active := rfl

@[simp] theorem State.modCtl_shadow (s : State) (c : Chan) (f : Controller → Controller) : (s.modCtl c f).shadow = s.shadow := rfl

@[simp] theorem State.modCtl_activeFilled (s : State) (c : Chan) (f : Controller → Controller) : (s.modCtl c f).activeFilled = s.activeFilled := rfl

@[simp] theorem State.modCtl_shadowDiffers (s : State) (c : Chan) (f : Controller → Controller) : (s.modCtl c f).shadowDiffers = s.shadowDiffers := rfl

@[simp] theorem State.modCtl_descs (s : State) (c : Chan) (f : Controller → Controller) : (s.modCtl c f).descs = s.descs := rfl

@[simp] theorem State.modCtl_portU (s : State) (c : Chan) (f : Controller → Controller) : (s.modCtl c f).portU = s.portU := rfl

@[simp] theorem State.modCtl_portD (s : State) (c : Chan) (f : Controller → Controller) : (s.modCtl c f).portD = s.portD := rfl

@[simp] theorem State.modCtl_reserved (s : State) (c : Chan) (f : Controller → Controller) : (s.modCtl c f).reserved = s.reserved := rfl

@[simp] theorem State.modCtl_requests (s : State) (c : Chan) (f : Controller → Controller) : (s.modCtl c f).requests = s.requests := rfl

@[simp] theorem State.modCtl_activation (s : State) (c : Chan) (f : Controller → Controller) : (s.modCtl c f).activation = s.activation := rfl

@[simp] theorem State.modCtl_freeze (s : State) (c : Chan) (f : Controller → Controller) : (s.modCtl c f).freeze = s.freeze := rfl

@[simp] theorem State.modCtl_resetPending (s : State) (c : Chan) (f : Controller → Controller) : (s.modCtl c f).resetPending = s.resetPending := rfl

@[simp] theorem State.modCtl_supNotes (s : State) (c : Chan) (f : Controller → Controller) : (s.modCtl c f).supNotes = s.supNotes := rfl

/-! ## `modGate` -/

@[simp] theorem State.modGate_pending (s : State) (c : Chan) (f : Gate → Gate) : (s.modGate c f).pending = s.pending := rfl

@[simp] theorem State.modGate_now (s : State) (c : Chan) (f : Gate → Gate) : (s.modGate c f).now = s.now := rfl

@[simp] theorem State.modGate_serial (s : State) (c : Chan) (f : Gate → Gate) : (s.modGate c f).serial = s.serial := rfl

@[simp] theorem State.modGate_straps (s : State) (c : Chan) (f : Gate → Gate) : (s.modGate c f).straps = s.straps := rfl

@[simp] theorem State.modGate_tripLine (s : State) (c : Chan) (f : Gate → Gate) : (s.modGate c f).tripLine = s.tripLine := rfl

@[simp] theorem State.modGate_resetLine (s : State) (c : Chan) (f : Gate → Gate) : (s.modGate c f).resetLine = s.resetLine := rfl

@[simp] theorem State.modGate_active (s : State) (c : Chan) (f : Gate → Gate) : (s.modGate c f).active = s.active := rfl

@[simp] theorem State.modGate_shadow (s : State) (c : Chan) (f : Gate → Gate) : (s.modGate c f).shadow = s.shadow := rfl

@[simp] theorem State.modGate_activeFilled (s : State) (c : Chan) (f : Gate → Gate) : (s.modGate c f).activeFilled = s.activeFilled := rfl

@[simp] theorem State.modGate_shadowDiffers (s : State) (c : Chan) (f : Gate → Gate) : (s.modGate c f).shadowDiffers = s.shadowDiffers := rfl

@[simp] theorem State.modGate_descs (s : State) (c : Chan) (f : Gate → Gate) : (s.modGate c f).descs = s.descs := rfl

@[simp] theorem State.modGate_portU (s : State) (c : Chan) (f : Gate → Gate) : (s.modGate c f).portU = s.portU := rfl

@[simp] theorem State.modGate_portD (s : State) (c : Chan) (f : Gate → Gate) : (s.modGate c f).portD = s.portD := rfl

@[simp] theorem State.modGate_reserved (s : State) (c : Chan) (f : Gate → Gate) : (s.modGate c f).reserved = s.reserved := rfl

@[simp] theorem State.modGate_requests (s : State) (c : Chan) (f : Gate → Gate) : (s.modGate c f).requests = s.requests := rfl

@[simp] theorem State.modGate_activation (s : State) (c : Chan) (f : Gate → Gate) : (s.modGate c f).activation = s.activation := rfl

@[simp] theorem State.modGate_freeze (s : State) (c : Chan) (f : Gate → Gate) : (s.modGate c f).freeze = s.freeze := rfl

@[simp] theorem State.modGate_resetPending (s : State) (c : Chan) (f : Gate → Gate) : (s.modGate c f).resetPending = s.resetPending := rfl

@[simp] theorem State.modGate_supNotes (s : State) (c : Chan) (f : Gate → Gate) : (s.modGate c f).supNotes = s.supNotes := rfl

/-! ## `modReckon` -/

@[simp] theorem State.modReckon_pending (s : State) (c : Chan) (f : Reckoning → Reckoning) : (s.modReckon c f).pending = s.pending := rfl

@[simp] theorem State.modReckon_now (s : State) (c : Chan) (f : Reckoning → Reckoning) : (s.modReckon c f).now = s.now := rfl

@[simp] theorem State.modReckon_serial (s : State) (c : Chan) (f : Reckoning → Reckoning) : (s.modReckon c f).serial = s.serial := rfl

@[simp] theorem State.modReckon_straps (s : State) (c : Chan) (f : Reckoning → Reckoning) : (s.modReckon c f).straps = s.straps := rfl

@[simp] theorem State.modReckon_tripLine (s : State) (c : Chan) (f : Reckoning → Reckoning) : (s.modReckon c f).tripLine = s.tripLine := rfl

@[simp] theorem State.modReckon_resetLine (s : State) (c : Chan) (f : Reckoning → Reckoning) : (s.modReckon c f).resetLine = s.resetLine := rfl

@[simp] theorem State.modReckon_active (s : State) (c : Chan) (f : Reckoning → Reckoning) : (s.modReckon c f).active = s.active := rfl

@[simp] theorem State.modReckon_shadow (s : State) (c : Chan) (f : Reckoning → Reckoning) : (s.modReckon c f).shadow = s.shadow := rfl

@[simp] theorem State.modReckon_activeFilled (s : State) (c : Chan) (f : Reckoning → Reckoning) : (s.modReckon c f).activeFilled = s.activeFilled := rfl

@[simp] theorem State.modReckon_shadowDiffers (s : State) (c : Chan) (f : Reckoning → Reckoning) : (s.modReckon c f).shadowDiffers = s.shadowDiffers := rfl

@[simp] theorem State.modReckon_descs (s : State) (c : Chan) (f : Reckoning → Reckoning) : (s.modReckon c f).descs = s.descs := rfl

@[simp] theorem State.modReckon_portU (s : State) (c : Chan) (f : Reckoning → Reckoning) : (s.modReckon c f).portU = s.portU := rfl

@[simp] theorem State.modReckon_portD (s : State) (c : Chan) (f : Reckoning → Reckoning) : (s.modReckon c f).portD = s.portD := rfl

@[simp] theorem State.modReckon_reserved (s : State) (c : Chan) (f : Reckoning → Reckoning) : (s.modReckon c f).reserved = s.reserved := rfl

@[simp] theorem State.modReckon_requests (s : State) (c : Chan) (f : Reckoning → Reckoning) : (s.modReckon c f).requests = s.requests := rfl

@[simp] theorem State.modReckon_activation (s : State) (c : Chan) (f : Reckoning → Reckoning) : (s.modReckon c f).activation = s.activation := rfl

@[simp] theorem State.modReckon_freeze (s : State) (c : Chan) (f : Reckoning → Reckoning) : (s.modReckon c f).freeze = s.freeze := rfl

@[simp] theorem State.modReckon_resetPending (s : State) (c : Chan) (f : Reckoning → Reckoning) : (s.modReckon c f).resetPending = s.resetPending := rfl

@[simp] theorem State.modReckon_supNotes (s : State) (c : Chan) (f : Reckoning → Reckoning) : (s.modReckon c f).supNotes = s.supNotes := rfl

/-! ## `raise` -/

@[simp] theorem State.raise_pending (s : State) (c : Chan) (k : ChanKind) : (s.raise c k).pending = s.pending := rfl

@[simp] theorem State.raise_now (s : State) (c : Chan) (k : ChanKind) : (s.raise c k).now = s.now := rfl

@[simp] theorem State.raise_serial (s : State) (c : Chan) (k : ChanKind) : (s.raise c k).serial = s.serial := rfl

@[simp] theorem State.raise_straps (s : State) (c : Chan) (k : ChanKind) : (s.raise c k).straps = s.straps := rfl

@[simp] theorem State.raise_tripLine (s : State) (c : Chan) (k : ChanKind) : (s.raise c k).tripLine = s.tripLine := rfl

@[simp] theorem State.raise_resetLine (s : State) (c : Chan) (k : ChanKind) : (s.raise c k).resetLine = s.resetLine := rfl

@[simp] theorem State.raise_active (s : State) (c : Chan) (k : ChanKind) : (s.raise c k).active = s.active := rfl

@[simp] theorem State.raise_shadow (s : State) (c : Chan) (k : ChanKind) : (s.raise c k).shadow = s.shadow := rfl

@[simp] theorem State.raise_activeFilled (s : State) (c : Chan) (k : ChanKind) : (s.raise c k).activeFilled = s.activeFilled := rfl

@[simp] theorem State.raise_shadowDiffers (s : State) (c : Chan) (k : ChanKind) : (s.raise c k).shadowDiffers = s.shadowDiffers := rfl

@[simp] theorem State.raise_descs (s : State) (c : Chan) (k : ChanKind) : (s.raise c k).descs = s.descs := rfl

@[simp] theorem State.raise_portU (s : State) (c : Chan) (k : ChanKind) : (s.raise c k).portU = s.portU := rfl

@[simp] theorem State.raise_portD (s : State) (c : Chan) (k : ChanKind) : (s.raise c k).portD = s.portD := rfl

@[simp] theorem State.raise_reserved (s : State) (c : Chan) (k : ChanKind) : (s.raise c k).reserved = s.reserved := rfl

@[simp] theorem State.raise_requests (s : State) (c : Chan) (k : ChanKind) : (s.raise c k).requests = s.requests := rfl

@[simp] theorem State.raise_activation (s : State) (c : Chan) (k : ChanKind) : (s.raise c k).activation = s.activation := rfl

@[simp] theorem State.raise_freeze (s : State) (c : Chan) (k : ChanKind) : (s.raise c k).freeze = s.freeze := rfl

@[simp] theorem State.raise_resetPending (s : State) (c : Chan) (k : ChanKind) : (s.raise c k).resetPending = s.resetPending := rfl

@[simp] theorem State.raise_supNotes (s : State) (c : Chan) (k : ChanKind) : (s.raise c k).supNotes = s.supNotes := rfl

/-! ## `raiseDetail` -/

@[simp] theorem State.raiseDetail_pending (s : State) (c : Chan) (k : ChanKind) (f : Detail → Detail) : (s.raiseDetail c k f).pending = s.pending := rfl

@[simp] theorem State.raiseDetail_now (s : State) (c : Chan) (k : ChanKind) (f : Detail → Detail) : (s.raiseDetail c k f).now = s.now := rfl

@[simp] theorem State.raiseDetail_serial (s : State) (c : Chan) (k : ChanKind) (f : Detail → Detail) : (s.raiseDetail c k f).serial = s.serial := rfl

@[simp] theorem State.raiseDetail_straps (s : State) (c : Chan) (k : ChanKind) (f : Detail → Detail) : (s.raiseDetail c k f).straps = s.straps := rfl

@[simp] theorem State.raiseDetail_tripLine (s : State) (c : Chan) (k : ChanKind) (f : Detail → Detail) : (s.raiseDetail c k f).tripLine = s.tripLine := rfl

@[simp] theorem State.raiseDetail_resetLine (s : State) (c : Chan) (k : ChanKind) (f : Detail → Detail) : (s.raiseDetail c k f).resetLine = s.resetLine := rfl

@[simp] theorem State.raiseDetail_active (s : State) (c : Chan) (k : ChanKind) (f : Detail → Detail) : (s.raiseDetail c k f).active = s.active := rfl

@[simp] theorem State.raiseDetail_shadow (s : State) (c : Chan) (k : ChanKind) (f : Detail → Detail) : (s.raiseDetail c k f).shadow = s.shadow := rfl

@[simp] theorem State.raiseDetail_activeFilled (s : State) (c : Chan) (k : ChanKind) (f : Detail → Detail) : (s.raiseDetail c k f).activeFilled = s.activeFilled := rfl

@[simp] theorem State.raiseDetail_shadowDiffers (s : State) (c : Chan) (k : ChanKind) (f : Detail → Detail) : (s.raiseDetail c k f).shadowDiffers = s.shadowDiffers := rfl

@[simp] theorem State.raiseDetail_descs (s : State) (c : Chan) (k : ChanKind) (f : Detail → Detail) : (s.raiseDetail c k f).descs = s.descs := rfl

@[simp] theorem State.raiseDetail_portU (s : State) (c : Chan) (k : ChanKind) (f : Detail → Detail) : (s.raiseDetail c k f).portU = s.portU := rfl

@[simp] theorem State.raiseDetail_portD (s : State) (c : Chan) (k : ChanKind) (f : Detail → Detail) : (s.raiseDetail c k f).portD = s.portD := rfl

@[simp] theorem State.raiseDetail_reserved (s : State) (c : Chan) (k : ChanKind) (f : Detail → Detail) : (s.raiseDetail c k f).reserved = s.reserved := rfl

@[simp] theorem State.raiseDetail_requests (s : State) (c : Chan) (k : ChanKind) (f : Detail → Detail) : (s.raiseDetail c k f).requests = s.requests := rfl

@[simp] theorem State.raiseDetail_activation (s : State) (c : Chan) (k : ChanKind) (f : Detail → Detail) : (s.raiseDetail c k f).activation = s.activation := rfl

@[simp] theorem State.raiseDetail_freeze (s : State) (c : Chan) (k : ChanKind) (f : Detail → Detail) : (s.raiseDetail c k f).freeze = s.freeze := rfl

@[simp] theorem State.raiseDetail_resetPending (s : State) (c : Chan) (k : ChanKind) (f : Detail → Detail) : (s.raiseDetail c k f).resetPending = s.resetPending := rfl

@[simp] theorem State.raiseDetail_supNotes (s : State) (c : Chan) (k : ChanKind) (f : Detail → Detail) : (s.raiseDetail c k f).supNotes = s.supNotes := rfl

/-! ## `raiseSup` -/

@[simp] theorem State.raiseSup_pending (s : State) (k : SupKind) : (s.raiseSup k).pending = s.pending := rfl

@[simp] theorem State.raiseSup_now (s : State) (k : SupKind) : (s.raiseSup k).now = s.now := rfl

@[simp] theorem State.raiseSup_serial (s : State) (k : SupKind) : (s.raiseSup k).serial = s.serial := rfl

@[simp] theorem State.raiseSup_straps (s : State) (k : SupKind) : (s.raiseSup k).straps = s.straps := rfl

@[simp] theorem State.raiseSup_tripLine (s : State) (k : SupKind) : (s.raiseSup k).tripLine = s.tripLine := rfl

@[simp] theorem State.raiseSup_resetLine (s : State) (k : SupKind) : (s.raiseSup k).resetLine = s.resetLine := rfl

@[simp] theorem State.raiseSup_active (s : State) (k : SupKind) : (s.raiseSup k).active = s.active := rfl

@[simp] theorem State.raiseSup_shadow (s : State) (k : SupKind) : (s.raiseSup k).shadow = s.shadow := rfl

@[simp] theorem State.raiseSup_activeFilled (s : State) (k : SupKind) : (s.raiseSup k).activeFilled = s.activeFilled := rfl

@[simp] theorem State.raiseSup_shadowDiffers (s : State) (k : SupKind) : (s.raiseSup k).shadowDiffers = s.shadowDiffers := rfl

@[simp] theorem State.raiseSup_descs (s : State) (k : SupKind) : (s.raiseSup k).descs = s.descs := rfl

@[simp] theorem State.raiseSup_chans (s : State) (k : SupKind) : (s.raiseSup k).chans = s.chans := rfl

@[simp] theorem State.raiseSup_portU (s : State) (k : SupKind) : (s.raiseSup k).portU = s.portU := rfl

@[simp] theorem State.raiseSup_portD (s : State) (k : SupKind) : (s.raiseSup k).portD = s.portD := rfl

@[simp] theorem State.raiseSup_reserved (s : State) (k : SupKind) : (s.raiseSup k).reserved = s.reserved := rfl

@[simp] theorem State.raiseSup_requests (s : State) (k : SupKind) : (s.raiseSup k).requests = s.requests := rfl

@[simp] theorem State.raiseSup_activation (s : State) (k : SupKind) : (s.raiseSup k).activation = s.activation := rfl

@[simp] theorem State.raiseSup_freeze (s : State) (k : SupKind) : (s.raiseSup k).freeze = s.freeze := rfl

@[simp] theorem State.raiseSup_resetPending (s : State) (k : SupKind) : (s.raiseSup k).resetPending = s.resetPending := rfl

/-! ## `raisePort` -/

@[simp] theorem State.raisePort_pending (s : State) (k : SupKind) (p : PortId) : (s.raisePort k p).pending = s.pending := rfl

@[simp] theorem State.raisePort_now (s : State) (k : SupKind) (p : PortId) : (s.raisePort k p).now = s.now := rfl

@[simp] theorem State.raisePort_serial (s : State) (k : SupKind) (p : PortId) : (s.raisePort k p).serial = s.serial := rfl

@[simp] theorem State.raisePort_straps (s : State) (k : SupKind) (p : PortId) : (s.raisePort k p).straps = s.straps := rfl

@[simp] theorem State.raisePort_tripLine (s : State) (k : SupKind) (p : PortId) : (s.raisePort k p).tripLine = s.tripLine := rfl

@[simp] theorem State.raisePort_resetLine (s : State) (k : SupKind) (p : PortId) : (s.raisePort k p).resetLine = s.resetLine := rfl

@[simp] theorem State.raisePort_active (s : State) (k : SupKind) (p : PortId) : (s.raisePort k p).active = s.active := rfl

@[simp] theorem State.raisePort_shadow (s : State) (k : SupKind) (p : PortId) : (s.raisePort k p).shadow = s.shadow := rfl

@[simp] theorem State.raisePort_activeFilled (s : State) (k : SupKind) (p : PortId) : (s.raisePort k p).activeFilled = s.activeFilled := rfl

@[simp] theorem State.raisePort_shadowDiffers (s : State) (k : SupKind) (p : PortId) : (s.raisePort k p).shadowDiffers = s.shadowDiffers := rfl

@[simp] theorem State.raisePort_descs (s : State) (k : SupKind) (p : PortId) : (s.raisePort k p).descs = s.descs := rfl

@[simp] theorem State.raisePort_chans (s : State) (k : SupKind) (p : PortId) : (s.raisePort k p).chans = s.chans := rfl

@[simp] theorem State.raisePort_portU (s : State) (k : SupKind) (p : PortId) : (s.raisePort k p).portU = s.portU := rfl

@[simp] theorem State.raisePort_portD (s : State) (k : SupKind) (p : PortId) : (s.raisePort k p).portD = s.portD := rfl

@[simp] theorem State.raisePort_reserved (s : State) (k : SupKind) (p : PortId) : (s.raisePort k p).reserved = s.reserved := rfl

@[simp] theorem State.raisePort_requests (s : State) (k : SupKind) (p : PortId) : (s.raisePort k p).requests = s.requests := rfl

@[simp] theorem State.raisePort_activation (s : State) (k : SupKind) (p : PortId) : (s.raisePort k p).activation = s.activation := rfl

@[simp] theorem State.raisePort_freeze (s : State) (k : SupKind) (p : PortId) : (s.raisePort k p).freeze = s.freeze := rfl

@[simp] theorem State.raisePort_resetPending (s : State) (k : SupKind) (p : PortId) : (s.raisePort k p).resetPending = s.resetPending := rfl

/-! ## `modPort` -/

@[simp] theorem State.modPort_pending (s : State) (p : PortId) (f : Port → Port) : (s.modPort p f).pending = s.pending := by cases p <;> rfl

@[simp] theorem State.modPort_now (s : State) (p : PortId) (f : Port → Port) : (s.modPort p f).now = s.now := by cases p <;> rfl

@[simp] theorem State.modPort_serial (s : State) (p : PortId) (f : Port → Port) : (s.modPort p f).serial = s.serial := by cases p <;> rfl

@[simp] theorem State.modPort_straps (s : State) (p : PortId) (f : Port → Port) : (s.modPort p f).straps = s.straps := by cases p <;> rfl

@[simp] theorem State.modPort_tripLine (s : State) (p : PortId) (f : Port → Port) : (s.modPort p f).tripLine = s.tripLine := by cases p <;> rfl

@[simp] theorem State.modPort_resetLine (s : State) (p : PortId) (f : Port → Port) : (s.modPort p f).resetLine = s.resetLine := by cases p <;> rfl

@[simp] theorem State.modPort_active (s : State) (p : PortId) (f : Port → Port) : (s.modPort p f).active = s.active := by cases p <;> rfl

@[simp] theorem State.modPort_shadow (s : State) (p : PortId) (f : Port → Port) : (s.modPort p f).shadow = s.shadow := by cases p <;> rfl

@[simp] theorem State.modPort_activeFilled (s : State) (p : PortId) (f : Port → Port) : (s.modPort p f).activeFilled = s.activeFilled := by cases p <;> rfl

@[simp] theorem State.modPort_shadowDiffers (s : State) (p : PortId) (f : Port → Port) : (s.modPort p f).shadowDiffers = s.shadowDiffers := by cases p <;> rfl

@[simp] theorem State.modPort_descs (s : State) (p : PortId) (f : Port → Port) : (s.modPort p f).descs = s.descs := by cases p <;> rfl

@[simp] theorem State.modPort_chans (s : State) (p : PortId) (f : Port → Port) : (s.modPort p f).chans = s.chans := by cases p <;> rfl

@[simp] theorem State.modPort_reserved (s : State) (p : PortId) (f : Port → Port) : (s.modPort p f).reserved = s.reserved := by cases p <;> rfl

@[simp] theorem State.modPort_requests (s : State) (p : PortId) (f : Port → Port) : (s.modPort p f).requests = s.requests := by cases p <;> rfl

@[simp] theorem State.modPort_activation (s : State) (p : PortId) (f : Port → Port) : (s.modPort p f).activation = s.activation := by cases p <;> rfl

@[simp] theorem State.modPort_freeze (s : State) (p : PortId) (f : Port → Port) : (s.modPort p f).freeze = s.freeze := by cases p <;> rfl

@[simp] theorem State.modPort_resetPending (s : State) (p : PortId) (f : Port → Port) : (s.modPort p f).resetPending = s.resetPending := by cases p <;> rfl

@[simp] theorem State.modPort_supNotes (s : State) (p : PortId) (f : Port → Port) : (s.modPort p f).supNotes = s.supNotes := by cases p <;> rfl

/-! ## A channel after an update -/

@[simp] theorem State.chan_modChan_same (s : State) (c : Chan) (f : Channel → Channel) :
    (s.modChan c f).chan c = f (s.chan c) := by
  simp [State.chan, State.modChan]

theorem State.chan_modChan_ne (s : State) {c d : Chan} (f : Channel → Channel) (h : d ≠ c) :
    (s.modChan c f).chan d = s.chan d := by
  simp [State.chan, State.modChan, Quad.get_set_ne _ _ h]

@[simp] theorem State.ctl_modCtl_same (s : State) (c : Chan) (f : Controller → Controller) :
    (s.modCtl c f).ctl c = f (s.ctl c) := by
  simp [State.ctl, State.modCtl]

theorem State.ctl_modCtl_ne (s : State) {c d : Chan} (f : Controller → Controller) (h : d ≠ c) :
    (s.modCtl c f).ctl d = s.ctl d := by
  simp [State.ctl, State.modCtl, State.chan_modChan_ne _ _ h]

@[simp] theorem State.gate_modCtl (s : State) (c d : Chan) (f : Controller → Controller) :
    (s.modCtl c f).gate d = s.gate d := by
  by_cases h : d = c
  · subst h
    simp [State.gate, State.modCtl]
  · simp [State.gate, State.modCtl, State.chan_modChan_ne _ _ h]

@[simp] theorem State.reckon_modCtl (s : State) (c d : Chan) (f : Controller → Controller) :
    (s.modCtl c f).reckon d = s.reckon d := by
  by_cases h : d = c
  · subst h
    simp [State.reckon, State.modCtl]
  · simp [State.reckon, State.modCtl, State.chan_modChan_ne _ _ h]

@[simp] theorem State.notes_modCtl (s : State) (c d : Chan) (f : Controller → Controller) :
    ((s.modCtl c f).chan d).notes = (s.chan d).notes := by
  by_cases h : d = c
  · subst h
    simp [State.modCtl]
  · simp [State.modCtl, State.chan_modChan_ne _ _ h]

theorem State.chan_modCtl_ne (s : State) {c d : Chan} (f : Controller → Controller) (h : d ≠ c) :
    (s.modCtl c f).chan d = s.chan d := by
  simp [State.modCtl, State.chan_modChan_ne _ _ h]

@[simp] theorem State.ctl_modGate (s : State) (c d : Chan) (f : Gate → Gate) :
    (s.modGate c f).ctl d = s.ctl d := by
  by_cases h : d = c
  · subst h
    simp [State.ctl, State.modGate]
  · simp [State.ctl, State.modGate, State.chan_modChan_ne _ _ h]

@[simp] theorem State.gate_modGate_same (s : State) (c : Chan) (f : Gate → Gate) :
    (s.modGate c f).gate c = f (s.gate c) := by
  simp [State.gate, State.modGate]

theorem State.gate_modGate_ne (s : State) {c d : Chan} (f : Gate → Gate) (h : d ≠ c) :
    (s.modGate c f).gate d = s.gate d := by
  simp [State.gate, State.modGate, State.chan_modChan_ne _ _ h]

@[simp] theorem State.reckon_modGate (s : State) (c d : Chan) (f : Gate → Gate) :
    (s.modGate c f).reckon d = s.reckon d := by
  by_cases h : d = c
  · subst h
    simp [State.reckon, State.modGate]
  · simp [State.reckon, State.modGate, State.chan_modChan_ne _ _ h]

@[simp] theorem State.notes_modGate (s : State) (c d : Chan) (f : Gate → Gate) :
    ((s.modGate c f).chan d).notes = (s.chan d).notes := by
  by_cases h : d = c
  · subst h
    simp [State.modGate]
  · simp [State.modGate, State.chan_modChan_ne _ _ h]

theorem State.chan_modGate_ne (s : State) {c d : Chan} (f : Gate → Gate) (h : d ≠ c) :
    (s.modGate c f).chan d = s.chan d := by
  simp [State.modGate, State.chan_modChan_ne _ _ h]

@[simp] theorem State.ctl_modReckon (s : State) (c d : Chan) (f : Reckoning → Reckoning) :
    (s.modReckon c f).ctl d = s.ctl d := by
  by_cases h : d = c
  · subst h
    simp [State.ctl, State.modReckon]
  · simp [State.ctl, State.modReckon, State.chan_modChan_ne _ _ h]

@[simp] theorem State.gate_modReckon (s : State) (c d : Chan) (f : Reckoning → Reckoning) :
    (s.modReckon c f).gate d = s.gate d := by
  by_cases h : d = c
  · subst h
    simp [State.gate, State.modReckon]
  · simp [State.gate, State.modReckon, State.chan_modChan_ne _ _ h]

@[simp] theorem State.reckon_modReckon_same (s : State) (c : Chan) (f : Reckoning → Reckoning) :
    (s.modReckon c f).reckon c = f (s.reckon c) := by
  simp [State.reckon, State.modReckon]

theorem State.reckon_modReckon_ne (s : State) {c d : Chan} (f : Reckoning → Reckoning) (h : d ≠ c) :
    (s.modReckon c f).reckon d = s.reckon d := by
  simp [State.reckon, State.modReckon, State.chan_modChan_ne _ _ h]

@[simp] theorem State.notes_modReckon (s : State) (c d : Chan) (f : Reckoning → Reckoning) :
    ((s.modReckon c f).chan d).notes = (s.chan d).notes := by
  by_cases h : d = c
  · subst h
    simp [State.modReckon]
  · simp [State.modReckon, State.chan_modChan_ne _ _ h]

theorem State.chan_modReckon_ne (s : State) {c d : Chan} (f : Reckoning → Reckoning) (h : d ≠ c) :
    (s.modReckon c f).chan d = s.chan d := by
  simp [State.modReckon, State.chan_modChan_ne _ _ h]

@[simp] theorem State.ctl_raise (s : State) (c d : Chan) (k : ChanKind) : (s.raise c k).ctl d = s.ctl d := by
  by_cases h : d = c
  · subst h
    simp [State.ctl, State.raise]
  · simp [State.ctl, State.raise, State.chan_modChan_ne _ _ h]

@[simp] theorem State.gate_raise (s : State) (c d : Chan) (k : ChanKind) : (s.raise c k).gate d = s.gate d := by
  by_cases h : d = c
  · subst h
    simp [State.gate, State.raise]
  · simp [State.gate, State.raise, State.chan_modChan_ne _ _ h]

@[simp] theorem State.reckon_raise (s : State) (c d : Chan) (k : ChanKind) : (s.raise c k).reckon d = s.reckon d := by
  by_cases h : d = c
  · subst h
    simp [State.reckon, State.raise]
  · simp [State.reckon, State.raise, State.chan_modChan_ne _ _ h]

theorem State.chan_raise_ne (s : State) {c d : Chan} (k : ChanKind) (h : d ≠ c) : (s.raise c k).chan d = s.chan d := by
  simp [State.raise, State.chan_modChan_ne _ _ h]

@[simp] theorem State.ctl_raiseDetail (s : State) (c d : Chan) (k : ChanKind) (f : Detail → Detail) : (s.raiseDetail c k f).ctl d = s.ctl d := by
  by_cases h : d = c
  · subst h
    simp [State.ctl, State.raiseDetail]
  · simp [State.ctl, State.raiseDetail, State.chan_modChan_ne _ _ h]

@[simp] theorem State.gate_raiseDetail (s : State) (c d : Chan) (k : ChanKind) (f : Detail → Detail) : (s.raiseDetail c k f).gate d = s.gate d := by
  by_cases h : d = c
  · subst h
    simp [State.gate, State.raiseDetail]
  · simp [State.gate, State.raiseDetail, State.chan_modChan_ne _ _ h]

@[simp] theorem State.reckon_raiseDetail (s : State) (c d : Chan) (k : ChanKind) (f : Detail → Detail) : (s.raiseDetail c k f).reckon d = s.reckon d := by
  by_cases h : d = c
  · subst h
    simp [State.reckon, State.raiseDetail]
  · simp [State.reckon, State.raiseDetail, State.chan_modChan_ne _ _ h]

theorem State.chan_raiseDetail_ne (s : State) {c d : Chan} (k : ChanKind) (f : Detail → Detail) (h : d ≠ c) : (s.raiseDetail c k f).chan d = s.chan d := by
  simp [State.raiseDetail, State.chan_modChan_ne _ _ h]

@[simp] theorem State.notes_raise_same (s : State) (c : Chan) (k : ChanKind) :
    ((s.raise c k).chan c).notes = (s.chan c).notes.add k.bit := by
  simp [State.raise]

/-! ## A channel seen through an update that leaves the channels alone -/

@[simp] theorem State.chan_advance (s : State) (dt : Nat) (c : Chan) : (s.advance dt).chan c = s.chan c := rfl

@[simp] theorem State.ctl_advance (s : State) (dt : Nat) (c : Chan) : (s.advance dt).ctl c = s.ctl c := rfl

@[simp] theorem State.gate_advance (s : State) (dt : Nat) (c : Chan) : (s.advance dt).gate c = s.gate c := rfl

@[simp] theorem State.reckon_advance (s : State) (dt : Nat) (c : Chan) : (s.advance dt).reckon c = s.reckon c := rfl

@[simp] theorem State.hoist_advance (s : State) (dt : Nat) (c : Chan) : (s.advance dt).hoist c = s.hoist c := rfl

@[simp] theorem State.chan_raiseSup (s : State) (k : SupKind) (c : Chan) : (s.raiseSup k).chan c = s.chan c := rfl

@[simp] theorem State.ctl_raiseSup (s : State) (k : SupKind) (c : Chan) : (s.raiseSup k).ctl c = s.ctl c := rfl

@[simp] theorem State.gate_raiseSup (s : State) (k : SupKind) (c : Chan) : (s.raiseSup k).gate c = s.gate c := rfl

@[simp] theorem State.reckon_raiseSup (s : State) (k : SupKind) (c : Chan) : (s.raiseSup k).reckon c = s.reckon c := rfl

@[simp] theorem State.hoist_raiseSup (s : State) (k : SupKind) (c : Chan) : (s.raiseSup k).hoist c = s.hoist c := rfl

@[simp] theorem State.chan_raisePort (s : State) (k : SupKind) (p : PortId) (c : Chan) : (s.raisePort k p).chan c = s.chan c := rfl

@[simp] theorem State.ctl_raisePort (s : State) (k : SupKind) (p : PortId) (c : Chan) : (s.raisePort k p).ctl c = s.ctl c := rfl

@[simp] theorem State.gate_raisePort (s : State) (k : SupKind) (p : PortId) (c : Chan) : (s.raisePort k p).gate c = s.gate c := rfl

@[simp] theorem State.reckon_raisePort (s : State) (k : SupKind) (p : PortId) (c : Chan) : (s.raisePort k p).reckon c = s.reckon c := rfl

@[simp] theorem State.hoist_raisePort (s : State) (k : SupKind) (p : PortId) (c : Chan) : (s.raisePort k p).hoist c = s.hoist c := rfl

@[simp] theorem State.chan_modPort (s : State) (p : PortId) (f : Port → Port) (c : Chan) : (s.modPort p f).chan c = s.chan c := by cases p <;> rfl

@[simp] theorem State.ctl_modPort (s : State) (p : PortId) (f : Port → Port) (c : Chan) : (s.modPort p f).ctl c = s.ctl c := by cases p <;> rfl

@[simp] theorem State.gate_modPort (s : State) (p : PortId) (f : Port → Port) (c : Chan) : (s.modPort p f).gate c = s.gate c := by cases p <;> rfl

@[simp] theorem State.reckon_modPort (s : State) (p : PortId) (f : Port → Port) (c : Chan) : (s.modPort p f).reckon c = s.reckon c := by cases p <;> rfl

@[simp] theorem State.hoist_modPort (s : State) (p : PortId) (f : Port → Port) (c : Chan) : (s.modPort p f).hoist c = s.hoist c := by cases p <;> rfl

@[simp] theorem State.hoist_modCtl (s : State) (c d : Chan) (f : Controller → Controller) : (s.modCtl c f).hoist d = s.hoist d := rfl

@[simp] theorem State.ms_modCtl (s : State) (c : Chan) (f : Controller → Controller) : (s.modCtl c f).ms = s.ms := rfl

@[simp] theorem State.moment_modCtl (s : State) (c : Chan) (f : Controller → Controller) : (s.modCtl c f).moment = s.moment := rfl

@[simp] theorem State.hoist_modGate (s : State) (c d : Chan) (f : Gate → Gate) : (s.modGate c f).hoist d = s.hoist d := rfl

@[simp] theorem State.ms_modGate (s : State) (c : Chan) (f : Gate → Gate) : (s.modGate c f).ms = s.ms := rfl

@[simp] theorem State.moment_modGate (s : State) (c : Chan) (f : Gate → Gate) : (s.modGate c f).moment = s.moment := rfl

@[simp] theorem State.hoist_modReckon (s : State) (c d : Chan) (f : Reckoning → Reckoning) : (s.modReckon c f).hoist d = s.hoist d := rfl

@[simp] theorem State.ms_modReckon (s : State) (c : Chan) (f : Reckoning → Reckoning) : (s.modReckon c f).ms = s.ms := rfl

@[simp] theorem State.moment_modReckon (s : State) (c : Chan) (f : Reckoning → Reckoning) : (s.modReckon c f).moment = s.moment := rfl

@[simp] theorem State.hoist_raise (s : State) (c d : Chan) (k : ChanKind) : (s.raise c k).hoist d = s.hoist d := rfl

@[simp] theorem State.ms_raise (s : State) (c : Chan) (k : ChanKind) : (s.raise c k).ms = s.ms := rfl

@[simp] theorem State.moment_raise (s : State) (c : Chan) (k : ChanKind) : (s.raise c k).moment = s.moment := rfl

@[simp] theorem State.hoist_raiseDetail (s : State) (c d : Chan) (k : ChanKind) (f : Detail → Detail) : (s.raiseDetail c k f).hoist d = s.hoist d := rfl

@[simp] theorem State.ms_raiseDetail (s : State) (c : Chan) (k : ChanKind) (f : Detail → Detail) : (s.raiseDetail c k f).ms = s.ms := rfl

@[simp] theorem State.moment_raiseDetail (s : State) (c : Chan) (k : ChanKind) (f : Detail → Detail) : (s.raiseDetail c k f).moment = s.moment := rfl

/-! ## Ports after an update -/

@[simp] theorem State.port_modPort_same (s : State) (p : PortId) (f : Port → Port) :
    (s.modPort p f).port p = f (s.port p) := by cases p <;> rfl

theorem State.port_modPort_ne (s : State) {p q : PortId} (f : Port → Port) (h : q ≠ p) :
    (s.modPort p f).port q = s.port q := by cases p <;> cases q <;> first | rfl | exact absurd rfl h

@[simp] theorem State.portD_modPort_d (s : State) (f : Port → Port) : (s.modPort .d f).portD = f s.portD := rfl

@[simp] theorem State.portU_modPort_d (s : State) (f : Port → Port) : (s.modPort .d f).portU = s.portU := rfl

@[simp] theorem State.portU_modPort_u (s : State) (f : Port → Port) : (s.modPort .u f).portU = f s.portU := rfl

@[simp] theorem State.portD_modPort_u (s : State) (f : Port → Port) : (s.modPort .u f).portD = s.portD := rfl

end Sys2Proof.Machine
end

