-- ==== Sys2Proof/Laws/Channels.lean ====
section
/-! SUPPORT. What the channel controller's shared operations do, said once as an explicit change of the controller's
record; the small lemmas of `withChan` and `withCtl` that such changes are rewritten with. -/

namespace Sys2Proof.Machine

/-! ## `withChan` -/

@[simp] theorem State.withChan_pending (s : State) (c : Chan) (x : Channel) : (s.withChan c x).pending = s.pending := rfl
@[simp] theorem State.withChan_now (s : State) (c : Chan) (x : Channel) : (s.withChan c x).now = s.now := rfl
@[simp] theorem State.withChan_serial (s : State) (c : Chan) (x : Channel) : (s.withChan c x).serial = s.serial := rfl
@[simp] theorem State.withChan_straps (s : State) (c : Chan) (x : Channel) : (s.withChan c x).straps = s.straps := rfl
@[simp] theorem State.withChan_tripLine (s : State) (c : Chan) (x : Channel) :
    (s.withChan c x).tripLine = s.tripLine := rfl
@[simp] theorem State.withChan_resetLine (s : State) (c : Chan) (x : Channel) :
    (s.withChan c x).resetLine = s.resetLine := rfl
@[simp] theorem State.withChan_active (s : State) (c : Chan) (x : Channel) : (s.withChan c x).active = s.active := rfl
@[simp] theorem State.withChan_shadow (s : State) (c : Chan) (x : Channel) : (s.withChan c x).shadow = s.shadow := rfl
@[simp] theorem State.withChan_activeFilled (s : State) (c : Chan) (x : Channel) :
    (s.withChan c x).activeFilled = s.activeFilled := rfl
@[simp] theorem State.withChan_shadowDiffers (s : State) (c : Chan) (x : Channel) :
    (s.withChan c x).shadowDiffers = s.shadowDiffers := rfl
@[simp] theorem State.withChan_descs (s : State) (c : Chan) (x : Channel) : (s.withChan c x).descs = s.descs := rfl
@[simp] theorem State.withChan_portU (s : State) (c : Chan) (x : Channel) : (s.withChan c x).portU = s.portU := rfl
@[simp] theorem State.withChan_portD (s : State) (c : Chan) (x : Channel) : (s.withChan c x).portD = s.portD := rfl
@[simp] theorem State.withChan_reserved (s : State) (c : Chan) (x : Channel) :
    (s.withChan c x).reserved = s.reserved := rfl
@[simp] theorem State.withChan_requests (s : State) (c : Chan) (x : Channel) :
    (s.withChan c x).requests = s.requests := rfl
@[simp] theorem State.withChan_activation (s : State) (c : Chan) (x : Channel) :
    (s.withChan c x).activation = s.activation := rfl
@[simp] theorem State.withChan_freeze (s : State) (c : Chan) (x : Channel) : (s.withChan c x).freeze = s.freeze := rfl
@[simp] theorem State.withChan_resetPending (s : State) (c : Chan) (x : Channel) :
    (s.withChan c x).resetPending = s.resetPending := rfl
@[simp] theorem State.withChan_supNotes (s : State) (c : Chan) (x : Channel) :
    (s.withChan c x).supNotes = s.supNotes := rfl
@[simp] theorem State.withChan_hoist (s : State) (c d : Chan) (x : Channel) :
    (s.withChan c x).hoist d = s.hoist d := rfl
@[simp] theorem State.withChan_lane (s : State) (c d : Chan) (x : Channel) : (s.withChan c x).lane d = s.lane d := rfl
@[simp] theorem State.withChan_ms (s : State) (c : Chan) (x : Channel) : (s.withChan c x).ms = s.ms := rfl
@[simp] theorem State.withChan_moment (s : State) (c : Chan) (x : Channel) : (s.withChan c x).moment = s.moment := rfl
@[simp] theorem State.withChan_desc (s : State) (c : Chan) (x : Channel) (i : Fin 256) :
    (s.withChan c x).desc i = s.desc i := rfl
@[simp] theorem State.withChan_successor (s : State) (c : Chan) (x : Channel) (i : Fin 256) :
    (s.withChan c x).successor i = s.successor i := rfl
@[simp] theorem State.withChan_barred (s : State) (c d : Chan) (x : Channel) (e : Descriptor) :
    (s.withChan c x).barred d e = s.barred d e := rfl

@[simp] theorem State.chan_withChan_same (s : State) (c : Chan) (x : Channel) : (s.withChan c x).chan c = x := by
  simp [State.withChan, State.chan]

theorem State.chan_withChan_ne (s : State) {c d : Chan} (x : Channel) (h : d ≠ c) :
    (s.withChan c x).chan d = s.chan d := by
  simp [State.withChan, State.chan, Quad.get_set_ne _ _ h]

@[simp] theorem State.withChan_withChan (s : State) (c : Chan) (x y : Channel) :
    (s.withChan c x).withChan c y = s.withChan c y := by
  simp [State.withChan]

@[simp] theorem State.withChan_chan (s : State) (c : Chan) : s.withChan c (s.chan c) = s := by
  simp [State.withChan, State.chan]

theorem State.ctl_eq (s : State) (c : Chan) : s.ctl c = (s.chan c).ctl := rfl
theorem State.gate_eq (s : State) (c : Chan) : s.gate c = (s.chan c).gate := rfl
theorem State.reckon_eq (s : State) (c : Chan) : s.reckon c = (s.chan c).reckon := rfl

/-! ## Every change of a channel is a `withChan` -/

theorem State.modChan_eq (s : State) (c : Chan) (f : Channel → Channel) :
    s.modChan c f = s.withChan c (f (s.chan c)) := rfl

theorem State.modCtl_eq (s : State) (c : Chan) (f : Controller → Controller) :
    s.modCtl c f = s.withChan c { s.chan c with ctl := f (s.chan c).ctl } := rfl

theorem State.modGate_eq (s : State) (c : Chan) (f : Gate → Gate) :
    s.modGate c f = s.withChan c { s.chan c with gate := f (s.chan c).gate } := rfl

theorem State.modReckon_eq (s : State) (c : Chan) (f : Reckoning → Reckoning) :
    s.modReckon c f = s.withChan c { s.chan c with reckon := f (s.chan c).reckon } := rfl

theorem State.raise_eq (s : State) (c : Chan) (k : ChanKind) :
    s.raise c k = s.withChan c { s.chan c with notes := (s.chan c).notes.add k.bit } := rfl

theorem State.raiseDetail_eq (s : State) (c : Chan) (k : ChanKind) (f : Detail → Detail) :
    s.raiseDetail c k f = s.withChan c { s.chan c with
      notes := { (s.chan c).notes.add k.bit with detail := f (s.chan c).notes.detail } } := rfl

/-- The stall watch of a channel kept as `x`, in a state whose clock and figures are `s`'s (R45). -/
def State.watchFor (s : State) (c : Chan) (x : Channel) (st : ChanState) : Option StallWatch :=
  if st.watched ∧ (s.hoist c).crawl * 1000 ≤ x.gate.out.natAbs then
    x.ctl.watch.or (some ⟨s.now, (s.hoist c).toothHold⟩)
  else none

theorem State.watchIn_eq (s : State) (c : Chan) (st : ChanState) : s.watchIn c st = s.watchFor c (s.chan c) st := rfl

@[simp] theorem State.watchFor_withChan (s : State) (c d : Chan) (x y : Channel) (st : ChanState) :
    (s.withChan d y).watchFor c x st = s.watchFor c x st := rfl

theorem State.enter_eq (s : State) (c : Chan) (st : ChanState) :
    s.enter c st = s.withChan c { s.chan c with
      ctl := { (s.chan c).ctl with state := st, watch := s.watchFor c (s.chan c) st } } := by
  simp only [State.enter, State.settleWatch, State.modCtl_eq, State.watchFor, State.watchRuns, State.ctl_eq,
    State.gate_eq, State.chan_withChan_same, State.withChan_withChan, State.withChan_hoist, State.withChan_now]
  congr 1
  by_cases h : st.watched = true ∧ (s.hoist c).crawl * 1000 ≤ (s.chan c).gate.out.natAbs
  · simp only [h, decide_true, Bool.and_self, if_true, and_self]
    cases (s.chan c).ctl.watch <;> simp
  · have : (st.watched && decide ((s.hoist c).crawl * 1000 ≤ (s.chan c).gate.out.natAbs)) = false := by
      simpa using h
    simp [this, h]

/-- The emission timer of a channel kept as `x` once it runs (R80). -/
def State.emissionFor (s : State) (c : Chan) (x : Channel) : Option Nat :=
  x.ctl.emission.or (some (s.ms + (s.hoist c).emission))

theorem State.emissionOn_eq (s : State) (c : Chan) : s.emissionOn c = s.emissionFor c (s.chan c) := rfl

@[simp] theorem State.emissionFor_withChan (s : State) (c d : Chan) (x y : Channel) :
    (s.withChan d y).emissionFor c x = s.emissionFor c x := rfl

theorem State.runEmission_eq (s : State) (c : Chan) :
    s.runEmission c = s.withChan c { s.chan c with
      ctl := { (s.chan c).ctl with emission := s.emissionFor c (s.chan c) } } := by
  simp only [State.runEmission, State.modCtl_eq, State.emissionFor]
  congr 1
  cases h : (s.chan c).ctl.emission <;> simp
  rw [← h]

/-- Rest is confirmed for a channel kept as `x` (R84). -/
def State.restFor (s : State) (c : Chan) (x : Channel) : Bool :=
  match x.ctl.record with
  | some r =>
    decide (x.gate.out = 0) && r.time.later x.ctl.zeroMoment && decide (r.actual.natAbs ≤ (s.hoist c).standstill)
  | none => false

theorem State.rest_eq (s : State) (c : Chan) : s.rest c = s.restFor c (s.chan c) := rfl

@[simp] theorem State.restFor_withChan (s : State) (c d : Chan) (x y : Channel) :
    (s.withChan d y).restFor c x = s.restFor c x := rfl

/-- A STOPPING channel at confirmed rest takes its destination, and otherwise stays (R91). -/
theorem State.tryStop_eq (s : State) (c : Chan) {d : Destination} (h : (s.chan c).ctl.state = .stopping d) :
    s.tryStop c =
      if s.restFor c (s.chan c) then
        s.withChan c { s.chan c with ctl := { (s.chan c).ctl with state := d.state, watch := none } }
      else s := by
  have hw : d.state.watched = false := by cases d <;> rfl
  simp only [State.tryStop, State.ctl_eq, h, State.rest_eq, State.enter_eq, State.watchFor, hw]
  simp

/-! ## Stops, faults, brake phases, trip -/

theorem State.stopToHeld_eq (s : State) (c : Chan) : s.stopToHeld c = s.withCtl c (s.stoppedCtl c) := by
  simp only [State.stopToHeld, State.modCtl_eq, State.runEmission_eq, State.enter_eq, State.chan_withChan_same,
    State.withChan_withChan, State.watchFor_withChan, State.emissionFor_withChan]
  rw [State.tryStop_eq (d := .held) _ _ (by simp)]
  simp only [State.chan_withChan_same, State.withChan_withChan, State.restFor_withChan]
  have hr : ∀ w e, s.restFor c { s.chan c with ctl :=
      { (s.chan c).ctl.dropList.dropInjection with demand := none, emission := e, state := .stopping .held, watch := w } }
      = s.rest c := fun _ _ => rfl
  simp only [hr, State.withCtl, State.stoppedCtl]
  by_cases h : s.rest c = true <;> simp only [h] <;> rfl

theorem State.stopToSuspended_eq (s : State) (c : Chan) {i : Fin 256} (hi : (s.ctl c).current = some i) :
    s.stopToSuspended c = s.withCtl c (s.suspendedCtl c i (s.ctl c).carried) := by
  simp only [State.stopToSuspended, State.modCtl_eq, State.runEmission_eq, State.enter_eq, State.chan_withChan_same,
    State.withChan_withChan, State.watchFor_withChan, State.emissionFor_withChan]
  rw [State.tryStop_eq (d := .suspended) _ _ (by simp)]
  simp only [State.chan_withChan_same, State.withChan_withChan, State.restFor_withChan]
  have hr : ∀ w e, s.restFor c { s.chan c with ctl :=
      { (s.chan c).ctl with listPhase := .approach, dwell := none, emission := e, state := .stopping .suspended,
                            watch := w } } = s.rest c := fun _ _ => rfl
  simp only [hr, State.withCtl, State.suspendedCtl, ← hi]
  by_cases h : s.rest c = true <;> simp only [h] <;> rfl

theorem State.redirectToHeld_eq (s : State) (c : Chan) :
    s.redirectToHeld c = s.withCtl c
      { (s.ctl c).unlisted with state := .stopping .held, watch := s.watchIn c (.stopping .held) } := by
  simp only [State.redirectToHeld, State.modCtl_eq, State.enter_eq, State.chan_withChan_same,
    State.withChan_withChan, State.watchFor_withChan]
  rfl

theorem forceWhere_eq_map (c : Chan) (q : List TxEntry) :
    (q.map fun e => if e.isDrive c then { e with frame := forceFrame e.frame } else e) =
      forceWhere (fun d => d == c) q := by
  refine List.map_congr_left fun e _ => ?_
  obtain ⟨k, f⟩ := e
  cases k with
  | drive d => by_cases h : d = c <;> simp [TxEntry.isDrive, h, forceFrame, BrakeCommand.code, GateMark.code]
  | _ => simp [TxEntry.isDrive]

theorem State.rewriteForced_eq (s : State) (c : Chan) : s.rewriteForced c = s.forcing fun d => d == c := by
  simp only [State.rewriteForced, State.modPort, State.forcing, forceWhere_eq_map]

theorem State.enterFault_eq (s : State) (c : Chan) :
    s.enterFault c = (s.withCtl c (s.faultCtl c)).forcing fun d => d == c := by
  simp only [State.enterFault, State.modCtl_eq, State.runEmission_eq, State.enter_eq, State.chan_withChan_same,
    State.withChan_withChan, State.watchFor_withChan, State.emissionFor_withChan, State.rewriteForced_eq]
  rfl

theorem State.raise_enterFault_eq (s : State) (c : Chan) (n : ChanKind) :
    (s.raise c n).enterFault c = s.faulted c n := by
  simp only [State.enterFault_eq, State.faulted, State.raise_eq, State.withCtl, State.withCtlNote,
    State.withChan_withChan, State.chan_withChan_same]
  simp only [State.faultCtl, State.emissionOn, State.ctl_eq, State.chan_withChan_same, State.withChan_hoist,
    State.withChan_ms]

theorem State.enterParkingSet_eq (s : State) (c : Chan) :
    s.enterParkingSet c = s.settingWith c (s.settingCtl c) := by
  simp only [State.enterParkingSet, State.startBrake, State.modCtl_eq, State.modGate_eq, State.gate_eq,
    State.chan_withChan_same, State.withChan_withChan, State.withChan_ms, State.withChan_hoist]
  by_cases h : (s.chan c).gate.out = 0
  · simp only [h, if_true, State.enter_eq, State.chan_withChan_same, State.withChan_withChan, State.watchFor_withChan]
    simp only [State.settingWith, State.settingCtl, State.gate_eq, h, if_true]
    rw [← h]
    rfl
  · simp only [h, if_false, State.enter_eq, State.chan_withChan_same, State.withChan_withChan,
      State.watchFor_withChan]
    simp only [State.settingWith, State.settingCtl, State.gate_eq, h, if_false]
    rfl

theorem State.enterParked_eq (s : State) (c : Chan) :
    s.enterParked c = (s.withCtl c { s.ctl c with state := .parked, brake := none, watch := none }).forcing
      fun d => d == c := by
  simp only [State.enterParked, State.modCtl_eq, State.enter_eq, State.chan_withChan_same,
    State.withChan_withChan, State.watchFor_withChan, State.rewriteForced_eq]
  rfl

theorem State.enterOpen_eq (s : State) (c : Chan) :
    s.enterOpen c = s.withCtl c { s.ctl c with
      state := .releasingOpen, prove := none, brake := some (s.ms + (s.hoist c).brakeConfirm), watch := none } := by
  simp only [State.enterOpen, State.startBrake, State.modCtl_eq, State.enter_eq, State.chan_withChan_same,
    State.withChan_withChan, State.watchFor_withChan, State.withChan_ms, State.withChan_hoist]
  rfl

end Sys2Proof.Machine
end

