-- ==== Sys2Proof/Laws/Engine.lean ====
section
/-! SUPPORT. What the engine's taking of a request comes to, said once: under the conditions of R174 the oldest request
leaves the queue, its row's rule acts, and one REPLY follows. -/

namespace Sys2Proof.Machine

/-- The state with port U's slot reserved. -/
def State.reserving (s : State) : State := { s with reserved := true }

@[simp] theorem State.reserving_chan (s : State) (c : Chan) : s.reserving.chan c = s.chan c := rfl
@[simp] theorem State.reserving_ctl (s : State) (c : Chan) : s.reserving.ctl c = s.ctl c := rfl
@[simp] theorem State.reserving_gate (s : State) (c : Chan) : s.reserving.gate c = s.gate c := rfl
@[simp] theorem State.reserving_reckon (s : State) (c : Chan) : s.reserving.reckon c = s.reckon c := rfl
@[simp] theorem State.reserving_hoist (s : State) (c : Chan) : s.reserving.hoist c = s.hoist c := rfl
@[simp] theorem State.reserving_freeze (s : State) : s.reserving.freeze = s.freeze := rfl
@[simp] theorem State.reserving_tripLine (s : State) : s.reserving.tripLine = s.tripLine := rfl
@[simp] theorem State.reserving_resetLine (s : State) : s.reserving.resetLine = s.resetLine := rfl
@[simp] theorem State.reserving_active (s : State) : s.reserving.active = s.active := rfl
@[simp] theorem State.reserving_activeFilled (s : State) : s.reserving.activeFilled = s.activeFilled := rfl
@[simp] theorem State.reserving_shadow (s : State) : s.reserving.shadow = s.shadow := rfl
@[simp] theorem State.reserving_descs (s : State) : s.reserving.descs = s.descs := rfl
@[simp] theorem State.reserving_supNotes (s : State) : s.reserving.supNotes = s.supNotes := rfl
@[simp] theorem State.reserving_ms (s : State) : s.reserving.ms = s.ms := rfl
@[simp] theorem State.reserving_rest (s : State) (c : Chan) : s.reserving.rest c = s.rest c := rfl
@[simp] theorem State.reserving_guarded (s : State) (i : Fin 256) : s.reserving.guarded i = s.guarded i := rfl
@[simp] theorem State.reserving_withChan (s : State) (c : Chan) (x : Channel) :
    s.reserving.withChan c x = (s.withChan c x).reserving := rfl

@[simp] theorem State.taken_chan (s : State) (dt : Nat) (rest : List Frame) (c : Chan) :
    (s.taken dt rest).chan c = s.chan c := rfl
@[simp] theorem State.taken_ctl (s : State) (dt : Nat) (rest : List Frame) (c : Chan) :
    (s.taken dt rest).ctl c = s.ctl c := rfl
@[simp] theorem State.taken_gate (s : State) (dt : Nat) (rest : List Frame) (c : Chan) :
    (s.taken dt rest).gate c = s.gate c := rfl
@[simp] theorem State.taken_reckon (s : State) (dt : Nat) (rest : List Frame) (c : Chan) :
    (s.taken dt rest).reckon c = s.reckon c := rfl
@[simp] theorem State.taken_hoist (s : State) (dt : Nat) (rest : List Frame) (c : Chan) :
    (s.taken dt rest).hoist c = s.hoist c := rfl
@[simp] theorem State.taken_rest (s : State) (dt : Nat) (rest : List Frame) (c : Chan) :
    (s.taken dt rest).rest c = s.rest c := rfl
@[simp] theorem State.taken_guarded (s : State) (dt : Nat) (rest : List Frame) (i : Fin 256) :
    (s.taken dt rest).guarded i = s.guarded i := rfl
@[simp] theorem State.taken_freeze (s : State) (dt : Nat) (rest : List Frame) :
    (s.taken dt rest).freeze = s.freeze := rfl
@[simp] theorem State.taken_tripLine (s : State) (dt : Nat) (rest : List Frame) :
    (s.taken dt rest).tripLine = s.tripLine := rfl
@[simp] theorem State.taken_active (s : State) (dt : Nat) (rest : List Frame) :
    (s.taken dt rest).active = s.active := rfl
@[simp] theorem State.taken_activeFilled (s : State) (dt : Nat) (rest : List Frame) :
    (s.taken dt rest).activeFilled = s.activeFilled := rfl
@[simp] theorem State.taken_shadow (s : State) (dt : Nat) (rest : List Frame) :
    (s.taken dt rest).shadow = s.shadow := rfl
@[simp] theorem State.taken_descs (s : State) (dt : Nat) (rest : List Frame) :
    (s.taken dt rest).descs = s.descs := rfl
@[simp] theorem State.taken_supNotes (s : State) (dt : Nat) (rest : List Frame) :
    (s.taken dt rest).supNotes = s.supNotes := rfl

theorem State.Takes.taken_line {s : State} {f : Frame} {rest : List Frame} (h : s.Takes f rest) (dt : Nat) :
    (s.taken dt rest).resetLine = .negated := by
  simpa [State.taken] using h.lineNegated

/-- A row whose rule passes the common checks. -/
theorem State.Takes.serve_eq {s : State} {f : Frame} {rest : List Frame} (h : s.Takes f rest) (dt : Nat)
    {mine : Frame → Bool} (hm : mine f = true) (hc : commonCheck f = none) (rule : State → Frame → Reaction) :
    (s.advance dt).serve mine rule =
      (rule (s.taken dt rest).reserving f).state.answer f (rule (s.taken dt rest).reserving f).result
        (rule (s.taken dt rest).reserving f).data := by
  obtain ⟨h1, h2, h3, h4, h5⟩ := h
  simp [State.serve, State.takeRequest, State.engineReady, State.heldInReset, State.upSlots, Config.txDepth,
    h1, h2, h3, h4, h5, hm, hc, State.taken, State.reserving]

/-- A request that the common checks refuse. -/
theorem State.Takes.serve_refused {s : State} {f : Frame} {rest : List Frame} (h : s.Takes f rest) (dt : Nat)
    {mine : Frame → Bool} (hm : mine f = true) {r : Result} (hc : commonCheck f = some r)
    (rule : State → Frame → Reaction) :
    (s.advance dt).serve mine rule = (s.taken dt rest).reserving.answer f r [] := by
  obtain ⟨h1, h2, h3, h4, h5⟩ := h
  simp [State.serve, State.takeRequest, State.engineReady, State.heldInReset, State.upSlots, Config.txDepth,
    h1, h2, h3, h4, h5, hm, hc, State.taken, State.reserving]

/-- ACTIVATE and RESET, whose bodies reply for themselves. -/
theorem State.Takes.takeRequest_eq {s : State} {f : Frame} {rest : List Frame} (h : s.Takes f rest) (dt : Nat)
    {mine : Frame → Bool} (hm : mine f = true) (body : State → Frame → State) :
    (s.advance dt).takeRequest mine body = body (s.taken dt rest).reserving f := by
  obtain ⟨h1, h2, h3, h4, h5⟩ := h
  simp [State.takeRequest, State.engineReady, State.heldInReset, State.upSlots, Config.txDepth,
    h1, h2, h3, h4, h5, hm, State.taken, State.reserving]

theorem State.answerAs_eq_repliedAs {t : State} (h : t.resetLine = .negated) (k : TxKind) (f : Frame) (r : Result)
    (d : List Byte) : t.answerAs k f r d = t.repliedAs k f r d := by
  simp only [State.answerAs, State.sendReply, State.portOpen, State.heldInReset, State.port, State.repliedAs, h]
  by_cases hl : t.portU.live = true
  · simp [hl, State.append, State.modPort]
  · simp [hl]

theorem State.answer_eq_replied {t : State} (h : t.resetLine = .negated) (f : Frame) (r : Result) (d : List Byte) :
    t.answer f r d = t.replied f r d := State.answerAs_eq_repliedAs h ..

/-- The reservation is used up by the reply. -/
@[simp] theorem State.repliedAs_reserved (t : State) (b : Bool) (k : TxKind) (f : Frame) (r : Result) (d : List Byte) :
    ({ t with reserved := b } : State).repliedAs k f r d = t.repliedAs k f r d := by
  simp only [State.repliedAs]; split <;> rfl

@[simp] theorem State.replied_reserved (t : State) (b : Bool) (f : Frame) (r : Result) (d : List Byte) :
    ({ t with reserved := b } : State).replied f r d = t.replied f r d := State.repliedAs_reserved ..

/-- A reply to a request taken, on a state that differs from the taken one in the reservation alone. -/
theorem State.answer_reserving {t : State} (h : t.resetLine = .negated) (f : Frame) (r : Result) (d : List Byte) :
    t.reserving.answer f r d = t.replied f r d := by
  rw [State.answer_eq_replied (by exact h)]; exact State.replied_reserved t true f r d

theorem State.answerAs_reserving {t : State} (h : t.resetLine = .negated) (k : TxKind) (f : Frame) (r : Result)
    (d : List Byte) : t.reserving.answerAs k f r d = t.repliedAs k f r d := by
  rw [State.answerAs_eq_repliedAs (by exact h)]; exact State.repliedAs_reserved t true k f r d

theorem Frame.code_of_payload {f : Frame} {b : Byte} {l : List Byte} (h : f.payload = b :: l) : f.code = some b := by
  simp [Frame.code, h]

theorem Frame.channel_of_payload {f : Frame} {b : Byte} {c : Chan} {l : List Byte}
    (h : f.payload = b :: chanByte c :: l) : f.channel = c := by
  simp only [Frame.channel, h]; cases c <;> rfl

theorem hasCode_of_payload {f : Frame} {b : Byte} {l : List Byte} (h : f.payload = b :: l) : hasCode b f = true := by
  simp [hasCode, Frame.code_of_payload h]

/-- The common checks pass a request of one byte whose code takes no operand. -/
theorem commonCheck_plain {f : Frame} {b : Byte} (h : f.payload = [b])
    (hb : b ∈ [codeStatus, codeFetch, codeCopy, codeThaw, codeClearTrip]) : commonCheck f = none := by
  simp only [List.mem_cons, List.not_mem_nil, or_false] at hb
  rcases hb with rfl | rfl | rfl | rfl | rfl <;> · simp [commonCheck, Frame.code, h, lenOk, byteAt]; decide

/-- The common checks pass a request that names a channel and nothing else. -/
theorem commonCheck_channel {f : Frame} {b : Byte} {c : Chan} (h : f.payload = [b, chanByte c])
    (hb : b ∈ [codeContinue, codeStop, codeTraffic, codePark, codeRelease]) : commonCheck f = none := by
  simp only [List.mem_cons, List.not_mem_nil, or_false] at hb
  rcases hb with rfl | rfl | rfl | rfl | rfl <;> cases c <;>
    · simp [commonCheck, Frame.code, h, lenOk, byteAt]; decide

end Sys2Proof.Machine
end

