-- ==== Sys2Proof/Laws/Numbers.lean ====
section
/-! SUPPORT. Numbers and their bytes, most significant first: a field reads back the number it was written with, and
the integer square root is the mathematical one. -/

namespace Sys2Proof.Machine

@[simp] theorem natBytes_length (k n : Nat) : (natBytes k n).length = k := by
  induction k with
  | zero => rfl
  | succ k ih => simp [natBytes, ih]

@[simp] theorem intBytes_length (k : Nat) (i : Int) : (intBytes k i).length = k := natBytes_length _ _

theorem bytesNat_foldl (l : List Byte) (a : Nat) :
    l.foldl (fun a b => a * 256 + b.toNat) a = a * 256 ^ l.length + bytesNat l := by
  induction l generalizing a with
  | nil => simp [bytesNat]
  | cons b l ih =>
    simp only [List.foldl_cons, List.length_cons, bytesNat]
    rw [ih, ih]; ring

theorem bytesNat_cons (b : Byte) (l : List Byte) : bytesNat (b :: l) = b.toNat * 256 ^ l.length + bytesNat l := by
  rw [bytesNat, List.foldl_cons, bytesNat_foldl]; simp

/-- The bytes of a number give it back, cut to their width. -/
theorem bytesNat_natBytes (k n : Nat) : bytesNat (natBytes k n) = n % 256 ^ k := by
  induction k with
  | zero => simp [natBytes, bytesNat, Nat.mod_one]
  | succ k ih =>
    rw [natBytes, bytesNat_cons, ih, natBytes_length, BitVec.toNat_ofNat]
    have : (2 : Nat) ^ 8 = 256 := rfl
    rw [this, pow_succ, Nat.mod_mul, mul_comm, add_comm]

theorem bytesNat_natBytes_of_lt {k n : Nat} (h : n < 256 ^ k) : bytesNat (natBytes k n) = n := by
  rw [bytesNat_natBytes, Nat.mod_eq_of_lt h]

/-- A field at its offset reads as the number written there. -/
theorem natAt_here (a : List Byte) {k n : Nat} (b : List Byte) {off : Nat} (h : off = a.length)
    (hn : n < 256 ^ k) : natAt (a ++ (natBytes k n ++ b)) off k = n := by
  subst h
  have : bytesAt (a ++ (natBytes k n ++ b)) a.length k = natBytes k n := by
    simp only [bytesAt, List.drop_left]
    rw [List.take_append_of_le_length (by rw [natBytes_length]), List.take_of_length_le (by rw [natBytes_length])]
  rw [natAt, this, bytesNat_natBytes_of_lt hn]

/-- A field past another number's bytes. -/
theorem natAt_skip (k n : Nat) (b : List Byte) {off : Nat} (j : Nat) (h : k ≤ off) :
    natAt (natBytes k n ++ b) off j = natAt b (off - k) j := by
  simp only [natAt, bytesAt]
  rw [List.drop_append, List.drop_of_length_le (by rw [natBytes_length]; exact h), natBytes_length, List.nil_append]

theorem natAt_cons (x : Byte) (b : List Byte) (off j : Nat) : natAt (x :: b) (off + 1) j = natAt b off j := rfl

theorem byteAt_skip (k n : Nat) (b : List Byte) {off : Nat} (h : k ≤ off) :
    byteAt (natBytes k n ++ b) off = byteAt b (off - k) := by
  simp only [byteAt]
  rw [List.getD_append_right _ _ _ _ (by rw [natBytes_length]; exact h), natBytes_length]

theorem byteAt_append_left {a : List Byte} (b : List Byte) {i : Nat} (h : i < a.length) :
    byteAt (a ++ b) i = byteAt a i := by
  simp [byteAt, List.getElem?_append_left h]

/-- The invariant of the bitwise square root. -/
theorem isqrtFrom_spec (n : Nat) : ∀ k r : Nat, r * r ≤ n → n < (r + 2 ^ (k + 1)) * (r + 2 ^ (k + 1)) →
    isqrtFrom k n r * isqrtFrom k n r ≤ n ∧ n < (isqrtFrom k n r + 1) * (isqrtFrom k n r + 1) := by
  intro k
  induction k with
  | zero =>
    intro r h1 h2
    simp only [isqrtFrom]
    split
    · exact ⟨‹_›, by simpa [add_assoc] using h2⟩
    · exact ⟨h1, by omega⟩
  | succ k ih =>
    intro r h1 h2
    simp only [isqrtFrom]
    split
    · refine ih _ ‹_› ?_
      have : r + 2 ^ (k + 1) + 2 ^ (k + 1) = r + 2 ^ (k + 1 + 1) := by rw [pow_succ 2 (k + 1)]; omega
      rw [this]; exact h2
    · exact ih _ h1 (by omega)

/-- The part's integer square root is the mathematical one (section 3). -/
theorem isqrt_eq_sqrt (n : Nat) : isqrt n = Nat.sqrt n := by
  have h := isqrtFrom_spec n (n.log2 / 2) 0 (by simp) (by
    have h1 : n < 2 ^ (n.log2 + 1) := Nat.lt_log2_self
    have h2 : 2 ^ (n.log2 + 1) ≤ 2 ^ (2 * (n.log2 / 2 + 1)) := Nat.pow_le_pow_right (by omega) (by omega)
    have h3 : (0 + 2 ^ (n.log2 / 2 + 1)) * (0 + 2 ^ (n.log2 / 2 + 1)) = 2 ^ (2 * (n.log2 / 2 + 1)) := by
      rw [zero_add, two_mul, ← pow_add]
    omega)
  rw [isqrt]; exact Nat.eq_sqrt.2 h

end Sys2Proof.Machine
end

