-- ==== Sys2Proof/Laws/Parking.lean ====
section
/-! SUPPORT. What PARK's entries to phase RAMP and phase SET come to (R98, R136 to R138). -/

namespace Sys2Proof.Machine

@[simp] theorem State.ctl_withChan_same (s : State) (c : Chan) (x : Channel) : (s.withChan c x).ctl c = x.ctl := by
  simp only [State.ctl_eq, State.chan_withChan_same]

@[simp] theorem State.gate_withChan_same (s : State) (c : Chan) (x : Channel) : (s.withChan c x).gate c = x.gate := by
  simp only [State.gate_eq, State.chan_withChan_same]

@[simp] theorem State.reckon_withChan_same (s : State) (c : Chan) (x : Channel) :
    (s.withChan c x).reckon c = x.reckon := by
  simp only [State.reckon_eq, State.chan_withChan_same]

/-- Confirmed rest needs an output of 0 (R84). -/
theorem State.out_zero_of_rest {s : State} {c : Chan} (h : s.rest c = true) : (s.gate c).out = 0 := by
  rw [State.rest_eq, State.restFor] at h
  split at h
  · simp only [Bool.and_eq_true, decide_eq_true_eq] at h; exact h.1.1
  · cases h

/-- Phase RAMP while the output is not 0. -/
theorem State.enterParkingRamp_of_moving {s : State} {c : Chan} (h : (s.gate c).out ≠ 0) :
    s.enterParkingRamp c = s.withCtl c { (s.ctl c).bare with
      state := .parkingRamp, demand := none, prove := none, brake := none, watch := none,
      emission := s.emissionOn c } := by
  have h' : (s.chan c).gate.out ≠ 0 := h
  have hr : ∀ x : Channel, x.gate.out = (s.chan c).gate.out → s.restFor c x = false := by
    intro x hx
    simp only [State.restFor, hx, h', decide_false, Bool.false_and]
    split <;> rfl
  simp only [State.enterParkingRamp, State.modCtl_eq, State.runEmission_eq, State.enter_eq, State.withChan_withChan,
    State.chan_withChan_same, State.watchFor_withChan, State.emissionFor_withChan, State.gate_eq, h', if_false,
    State.tryRampRest, State.ctl_eq, State.rest_eq, State.restFor_withChan]
  rw [if_neg fun h => Bool.false_ne_true ((hr _ rfl).symm.trans h.2)]
  rfl

/-- Phase RAMP with the output at 0 and rest not confirmed: the brake confirm timer starts at entry. -/
theorem State.enterParkingRamp_of_still {s : State} {c : Chan} (h : (s.gate c).out = 0) (hr : s.rest c = false) :
    s.enterParkingRamp c = s.withCtl c { (s.ctl c).bare with
      state := .parkingRamp, demand := none, prove := none, brake := some (s.ms + (s.hoist c).brakeConfirm),
      watch := none, emission := s.emissionOn c } := by
  have h' : (s.chan c).gate.out = 0 := h
  simp only [State.enterParkingRamp, State.modCtl_eq, State.runEmission_eq, State.enter_eq, State.withChan_withChan,
    State.chan_withChan_same, State.watchFor_withChan, State.emissionFor_withChan, State.gate_eq, h', if_true,
    State.tryRampRest, State.ctl_eq, State.rest_eq, State.restFor_withChan, State.startBrake, State.withChan_ms,
    State.withChan_hoist]
  rw [if_neg]
  · rfl
  · rintro ⟨-, h⟩
    rw [State.rest_eq] at hr
    exact absurd (h.symm.trans (show _ = s.restFor c (s.chan c) from rfl)) (by simp [hr])

/-- Rest confirmed at entry leads on to phase SET. -/
theorem State.enterParkingRamp_of_rest {s : State} {c : Chan} (hr : s.rest c = true) :
    s.enterParkingRamp c = s.settingWith c { (s.ctl c).bare with
      state := .parkingSet, demand := none, prove := none, brake := some (s.ms + (s.hoist c).brakeConfirm),
      watch := none, emission := s.emissionOn c } := by
  have h0 : (s.chan c).gate.out = 0 := State.out_zero_of_rest hr
  simp only [State.enterParkingRamp, State.modCtl_eq, State.runEmission_eq, State.enter_eq, State.withChan_withChan,
    State.chan_withChan_same, State.watchFor_withChan, State.emissionFor_withChan, State.gate_eq, h0, if_true,
    State.tryRampRest, State.ctl_eq, State.rest_eq, State.restFor_withChan, State.startBrake, State.withChan_ms,
    State.withChan_hoist]
  rw [if_pos ⟨trivial, show _ = true from hr⟩, State.enterParkingSet_eq]
  simp only [State.settingWith, State.settingCtl, State.withChan_withChan, State.chan_withChan_same, State.gate_eq,
    State.ctl_eq, h0, if_true]
  rfl

/-- PARK into phase SET. -/
theorem State.parkToSet_eq (s : State) (c : Chan) :
    s.parkToSet c = s.settingWith c { (s.ctl c).bare with
      state := .parkingSet, demand := none, prove := none, brake := some (s.ms + (s.hoist c).brakeConfirm),
      watch := none, emission := s.emissionOn c,
      zeroMoment := if (s.gate c).out = 0 then (s.ctl c).zeroMoment else s.moment } := by
  simp only [State.parkToSet, State.modCtl_eq, State.runEmission_eq, State.withChan_withChan,
    State.chan_withChan_same, State.emissionFor_withChan, State.enterParkingSet_eq]
  simp only [State.settingWith, State.settingCtl, State.withChan_withChan, State.chan_withChan_same, State.gate_eq,
    State.ctl_eq]
  rfl

end Sys2Proof.Machine
end

