-- ==== Sys2Proof/Laws/Gate.lean ====
section
/-! SUPPORT. What one evaluation of the gate does, said once: the channel it leaves before the list's part, and the DRIVE
frame it hands to port D. -/

namespace Sys2Proof.Machine

theorem capTo_eq_heldWithin (down up : Nat) (v : Int) : capTo down up v = heldWithin down up v := by
  simp only [capTo, clampInt, heldWithin]; omega

/-- The notices of forming the demand, as a set (R52, R53, R128). -/
def State.demandNotes (s : State) (c : Chan) (src : Option Frame) : Source 18 :=
  match (s.ctl c).state, src with
  | .trafficLive, some f =>
    if byteAt f.payload 2 = BrakeCommand.run.code then (s.chan c).notes
    else (s.chan c).notes.add ChanKind.brakeByTraffic.bit
  | .injected, _ => if s.slack c then (s.chan c).notes.add ChanKind.slackRope.bit else (s.chan c).notes
  | _, _ => (s.chan c).notes

theorem State.demandNotices_eq (s : State) (c : Chan) (src : Option Frame) :
    s.demandNotices c src = s.withChan c { s.chan c with notes := s.demandNotes c src } := by
  have e : s = s.withChan c { s.chan c with notes := (s.chan c).notes } := (State.withChan_chan s c).symm
  unfold State.demandNotes State.demandNotices
  cases hst : (s.ctl c).state <;> cases src <;> first | exact e | skip
  · rename_i f
    by_cases h : byteAt f.payload 2 = BrakeCommand.run.code
    · simp only [h, if_true]; exact e
    · simp only [h, if_false]; rfl
  all_goals
    by_cases h : s.slack c = true
    · simp only [h, if_true]; rfl
    · simp only [h]; exact e

theorem State.storeEvaluation_eq (s : State) (c : Chan) (e : Evaluation) :
    s.storeEvaluation c e = s.withChan c { s.chan c with
      gate := ⟨e.output, some s.now, e.downCap, e.upCap⟩,
      ctl := if (s.gate c).out ≠ 0 ∧ e.output = 0 then { s.ctl c with zeroMoment := s.moment } else s.ctl c } := by
  simp only [State.storeEvaluation, State.modGate_eq, State.modCtl_eq, State.withChan_withChan,
    State.chan_withChan_same]
  by_cases h : (s.gate c).out ≠ 0 ∧ e.output = 0
  · rw [if_pos (by simpa using h), if_pos h]; rfl
  · rw [if_neg (by simpa using h), if_neg h]; rfl

theorem State.settleWatch_eq (s : State) (c : Chan) :
    s.settleWatch c = s.withCtl c { s.ctl c with watch := s.watchIn c (s.ctl c).state } := by
  have e : s.enter c (s.ctl c).state = s.settleWatch c := by
    simp only [State.enter]
    congr 1
    rw [State.modCtl_eq]; exact State.withChan_chan s c
  rw [← e, State.enter_eq]; rfl

theorem State.rampTimer_eq (s : State) (c : Chan) (b : Int) :
    s.rampTimer c b = s.withCtl c
      (if (s.ctl c).state = .parkingRamp ∧ b ≠ 0 ∧ (s.gate c).out = 0 then
        { s.ctl c with brake := some (s.ms + (s.hoist c).brakeConfirm) }
      else s.ctl c) := by
  simp only [State.rampTimer]; split
  · rfl
  · exact (State.withChan_chan s c).symm

theorem State.noteLimited_eq (s : State) (c : Chan) (b : Bool) :
    s.noteLimited c b = s.withChan c
      (if (s.ctl c).state = .injected ∧ b = true ∧ (s.ctl c).limited = false then
        { s.chan c with
          notes := (s.chan c).notes.add ChanKind.responseLimited.bit, ctl := { s.ctl c with limited := true } }
      else s.chan c) := by
  simp only [State.noteLimited]; split
  · simp only [State.raise_eq, State.modCtl_eq, State.withChan_withChan, State.chan_withChan_same]; rfl
  · exact (State.withChan_chan s c).symm

/-- The controller's record after stages 1 to 6 of an evaluation (R45, R84, R129, R136). -/
def State.evaluatedCtl (s : State) (c : Chan) (e : Evaluation) : Controller :=
  { s.ctl c with
    zeroMoment := if (s.gate c).out ≠ 0 ∧ e.output = 0 then s.moment else (s.ctl c).zeroMoment
    brake :=
      if (s.ctl c).state = .parkingRamp ∧ (s.gate c).out ≠ 0 ∧ e.output = 0 then
        some (s.ms + (s.hoist c).brakeConfirm)
      else (s.ctl c).brake
    watch :=
      if (s.ctl c).state.watched ∧ (s.hoist c).crawl * 1000 ≤ e.output.natAbs then
        (s.ctl c).watch.or (some ⟨s.now, (s.hoist c).toothHold⟩)
      else none
    limited := if (s.ctl c).state = .injected ∧ e.limited = true then true else (s.ctl c).limited }

/-- The channel's notices after an evaluation (R52, R53, R128, R129). -/
def State.evaluatedNotes (s : State) (c : Chan) (src : Option Frame) (e : Evaluation) : Source 18 :=
  if (s.ctl c).state = .injected ∧ e.limited = true ∧ (s.ctl c).limited = false then
    (s.demandNotes c src).add ChanKind.responseLimited.bit
  else s.demandNotes c src

/-- One evaluation, as a change of the channel, a frame handed to port D and the list's part (R50). -/
theorem State.evaluate_eq (s : State) (c : Chan) (src : Option Frame) :
    s.evaluate c src =
      ((s.withChan c { s.chan c with
          gate := ⟨(s.evaluation c src).output, some s.now, (s.evaluation c src).downCap, (s.evaluation c src).upCap⟩,
          ctl := s.evaluatedCtl c (s.evaluation c src),
          notes := s.evaluatedNotes c src (s.evaluation c src) }).handDrive c
        (s.driveFrame c src (s.evaluation c src))).listAfter c := by
  rw [State.evaluate]
  generalize s.evaluation c src = e
  simp only
  congr 2
  simp only [State.demandNotices_eq, State.storeEvaluation_eq, State.rampTimer_eq, State.settleWatch_eq,
    State.noteLimited_eq, State.withCtl, State.withChan_withChan, State.chan_withChan_same, State.ctl_withChan_same,
    State.gate_withChan_same]
  congr 1
  simp only [State.watchIn, State.ctl_withChan_same, State.gate_withChan_same, State.withChan_hoist,
    State.withChan_now, State.withChan_ms, State.withChan_moment, State.evaluatedCtl, State.evaluatedNotes]
  have hg : (s.chan c).gate.out = (s.gate c).out := rfl
  have hc : (s.chan c).ctl = s.ctl c := rfl
  simp only [hg, hc]
  generalize (s.gate c).out = p
  generalize s.ctl c = k
  generalize s.demandNotes c src = n
  by_cases h1 : p ≠ 0 ∧ e.output = 0 <;> by_cases h2 : k.state = .parkingRamp <;>
    by_cases h3 : k.state = .injected ∧ e.limited = true <;> by_cases h4 : k.limited = true <;> simp [*]

end Sys2Proof.Machine
end

