-- ==== Sys2Proof/Laws/Lists.lean ====
section
/-! SUPPORT. What becoming current, the bar, and the list's endings do, as explicit changes of the channel. -/

namespace Sys2Proof.Machine

/-- A descriptor that R109's conditions let pass is not barred. -/
theorem State.Admits.barred {s : State} {c : Chan} {d : Descriptor} (h : s.Admits c d) : s.barred c d = none := by
  obtain ⟨h1, h2, h3, h4⟩ := h
  have h2' : ¬ d.target < (s.lane c).top := by omega
  have h3' : ¬ (s.lane c).bottom < d.target := by omega
  simp only [State.barred, h1, h2', h3', if_false, decide_false]
  rcases h4 with h | h
  · simp [h]
  · cases hz : zoneAt s.active.entries d.target with
    | none => simp
    | some z => simp [h z hz]

/-- A descriptor that becomes current and is not barred. -/
theorem State.becomeCurrent_of_free {s : State} {c : Chan} {i : Fin 256} (h : s.barred c (s.desc i) = none) :
    s.becomeCurrent c i = s.withCtl c { s.ctl c with
      current := some i, listPhase := .approach, evaluated := false, dwell := none, carried := none } := by
  simp only [State.becomeCurrent, State.modCtl_eq, State.withChan_barred, State.withChan_desc, h]
  rfl

/-- A descriptor that becomes current and is barred (R109). -/
theorem State.becomeCurrent_of_barred {s : State} {c : Chan} {i : Fin 256} {cause : ListCause}
    (h : s.barred c (s.desc i) = some cause) : s.becomeCurrent c i = s.barredOn c i cause := by
  simp only [State.becomeCurrent, State.modCtl_eq, State.withChan_barred, State.withChan_desc, h,
    State.raiseDetail_eq, State.stopToHeld_eq, State.withCtl, State.withChan_withChan, State.chan_withChan_same]
  simp only [State.barredOn, State.stoppedCtl, State.rest_eq, State.emissionOn, State.watchIn, State.ctl_eq,
    State.gate_eq, State.chan_withChan_same, State.withChan_hoist, State.withChan_ms, State.withChan_now,
    State.restFor_withChan]
  rfl

theorem State.endList_eq (s : State) (c : Chan) :
    s.endList c = s.withCtlNote c { (s.ctl c).unlisted with state := .held, watch := none } .listEnd := by
  simp only [State.endList, State.modCtl_eq, State.enter_eq, State.raise_eq, State.chan_withChan_same,
    State.withChan_withChan, State.watchFor_withChan]
  rfl

/-- The successor by next mode (R107). -/
theorem State.successor_link {s : State} {i j : Fin 256} (h : (s.descs[i]).next = .link j) :
    s.successor i = some j := by
  simp only [State.successor, State.desc, h]

theorem State.successor_next {s : State} {i j : Fin 256} (h : (s.descs[i]).next = .next) (hj : j.val = i.val + 1) :
    s.successor i = some j := by
  have : i.val + 1 < 256 := by omega
  simp only [State.successor, State.desc, h, this, dif_pos]
  exact congrArg some (Fin.ext hj.symm)

theorem State.successor_stop {s : State} {i : Fin 256} (h : (s.descs[i]).next = .stopHere) :
    s.successor i = none := by
  simp only [State.successor, State.desc, h]

theorem State.successor_last {s : State} {i : Fin 256} (h : (s.descs[i]).next = .next) (hi : i.val = 255) :
    s.successor i = none := by
  have : ¬ i.val + 1 < 256 := by omega
  simp only [State.successor, State.desc, h, this, dif_neg, not_false_eq_true]

theorem State.Successor.eq {s : State} {i j : Fin 256} (h : s.Successor i j) : s.successor i = some j :=
  h.elim State.successor_link fun h => State.successor_next h.1 h.2

theorem State.NoSuccessor.eq {s : State} {i : Fin 256} (h : s.NoSuccessor i) : s.successor i = none :=
  h.elim State.successor_stop fun h => State.successor_last h.1 h.2

/-- A descriptor that one of R109's conditions bars. -/
theorem State.Bars.barred {s : State} {c : Chan} {d : Descriptor} {cause : ListCause} (h : s.Bars c d cause) :
    s.barred c d = some cause := by
  cases h with
  | invalid h => simp [State.barred, h]
  | outsideStops h h' => simp [State.barred, h, h']
  | noDwellZone z h h1 h2 h3 h4 h5 =>
    simp [State.barred, h, Nat.not_lt.2 h1, Nat.not_lt.2 h2, h3, h4, h5]

/-- What the completion of a descriptor can do (R114). -/
theorem State.completes_complete (s : State) (c : Chan) (i : Fin 256) : s.Completes c i fun t => s.complete c i = t := by
  have hv : ∃ v, v = (if (s.descs[i]).notify then s.withCtlNote c (s.ctl c) .moveDone else s)
      ∧ v = (if (s.desc i).notify then s.raise c .moveDone else s)
      ∧ (∀ j, v.desc j = s.descs[j]) ∧ v.successor i = s.successor i ∧ ∀ d, v.barred c d = s.barred c d := by
    refine ⟨_, rfl, ?_⟩
    rw [State.raise_eq, State.desc]
    split <;> exact ⟨rfl, fun _ => rfl, rfl, fun _ => rfl⟩
  obtain ⟨v, h1, h2, hd, hs, hb⟩ := hv
  simp only [State.Completes, State.complete, ← h1, ← h2, hs]
  refine ⟨fun j hj ha => ?_, fun j cause hj ha => ?_, fun hn => ?_⟩
  · rw [hj.eq]
    exact State.becomeCurrent_of_free (by rw [hb, hd]; exact ha.barred)
  · rw [hj.eq]
    exact State.becomeCurrent_of_barred (by rw [hb, hd]; exact ha.barred)
  · rw [hn.eq]
    exact State.endList_eq v c

/-- `Completes` says something of one state: it passes from what the completion gives to whatever holds of that. -/
theorem State.Completes.imp {s : State} {c : Chan} {i : Fin 256} {p q : State → Prop} (h : s.Completes c i p)
    (hpq : ∀ t, p t → q t) : s.Completes c i q :=
  ⟨fun j h1 h2 => hpq _ (h.1 j h1 h2), fun j cause h1 h2 => hpq _ (h.2.1 j cause h1 h2), fun h1 => hpq _ (h.2.2 h1)⟩

end Sys2Proof.Machine
end

