-- ==== Sys2Proof/Laws/Resets.lean ====
section
/-! SUPPORT. What is done to the four channels in their order, said at once for all of them: the trip, the full reset and
the completion of an ACTIVATE ALL. -/

namespace Sys2Proof.Machine

theorem State.chan_withChan_other (s : State) {c d : Chan} (x : Channel) (h : d ≠ c) :
    (s.withChan d x).chan c = s.chan c := State.chan_withChan_ne _ _ (Ne.symm h)

/-- A change of each channel by itself. -/
theorem foldl_withChan {g : State → Chan → State} {F : State → Chan → Channel}
    (hg : ∀ t c, g t c = t.withChan c (F t c)) (hF : ∀ t d x c, d ≠ c → F (t.withChan d x) c = F t c) (t : State) :
    allChans.foldl g t = t.mapChans (F t) := by
  simp only [allChans, List.foldl, hg]
  rw [hF _ .c2 _ .c3 (by decide), hF _ .c1 _ .c3 (by decide), hF _ .c0 _ .c3 (by decide),
    hF _ .c1 _ .c2 (by decide), hF _ .c0 _ .c2 (by decide), hF _ .c0 _ .c1 (by decide)]
  rfl

/-- Rewriting twice is rewriting for either cause (R72). -/
theorem forceWhere_forceWhere (p q : Chan → Bool) (l : List TxEntry) :
    forceWhere p (forceWhere q l) = forceWhere (fun c => p c || q c) l := by
  simp only [forceWhere, List.map_map]
  refine List.map_congr_left fun e _ => ?_
  obtain ⟨k, f⟩ := e
  cases k with
  | drive c =>
    simp only [Function.comp]
    by_cases hq : q c = true <;> by_cases hp : p c = true <;> simp [hq, hp, Frame.sealed, Frame.body, Frame.len]
  | _ => rfl

theorem State.forcing_forcing (s : State) (p q : Chan → Bool) :
    (s.forcing q).forcing p = s.forcing fun c => p c || q c := by
  simp only [State.forcing, forceWhere_forceWhere]

theorem State.forcing_none (s : State) : s.forcing (fun _ => false) = s := by
  have : ∀ l : List TxEntry, forceWhere (fun _ => false) l = l := by
    intro l
    conv_rhs => rw [← List.map_id l]
    refine List.map_congr_left fun e _ => ?_
    obtain ⟨k, f⟩ := e; cases k <;> rfl
  simp only [State.forcing, this]

/-- A change of each channel by itself that also rewrites the channel's waiting frame where `P` says so. -/
theorem foldl_forcing {g : State → Chan → State} {F : State → Chan → Channel} {P : State → Chan → Bool}
    (hg : ∀ t c, g t c = (t.withChan c (F t c)).forcing fun d => d == c && P t c)
    (hF : ∀ t d x c, d ≠ c → F (t.withChan d x) c = F t c) (hF' : ∀ t p c, F (t.forcing p) c = F t c)
    (hP : ∀ t d x c, d ≠ c → P (t.withChan d x) c = P t c) (hP' : ∀ t p c, P (t.forcing p) c = P t c) (t : State) :
    allChans.foldl g t = (t.mapChans (F t)).forcing (P t) := by
  simp only [allChans, List.foldl, hg]
  have e : ∀ (u : State) p d x, (u.forcing p).withChan d x = (u.withChan d x).forcing p := fun _ _ _ _ => rfl
  simp only [hF', hP', e, State.forcing_forcing]
  rw [hF _ .c2 _ .c3 (by decide), hF _ .c1 _ .c3 (by decide), hF _ .c0 _ .c3 (by decide),
    hF _ .c1 _ .c2 (by decide), hF _ .c0 _ .c2 (by decide), hF _ .c0 _ .c1 (by decide),
    hP _ .c2 _ .c3 (by decide), hP _ .c1 _ .c3 (by decide), hP _ .c0 _ .c3 (by decide),
    hP _ .c1 _ .c2 (by decide), hP _ .c0 _ .c2 (by decide), hP _ .c0 _ .c1 (by decide)]
  show State.forcing (t.mapChans (F t)) _ = _
  congr 1
  funext d
  have hd : P t d = (match d with | .c0 => P t .c0 | .c1 => P t .c1 | .c2 => P t .c2 | .c3 => P t .c3) := by
    cases d <;> rfl
  rw [hd]
  generalize P t .c0 = a0
  generalize P t .c1 = a1
  generalize P t .c2 = a2
  generalize P t .c3 = a3
  clear hd
  cases d <;> revert a0 a1 a2 a3 <;> decide

/-! ## The trip (R147) -/

theorem State.tripChannel_eq (t : State) (c : Chan) :
    t.tripChannel c =
      (t.withChan c { t.chan c with ctl := t.trippedCtl c }).forcing
        fun d => d == c && (t.ctl c).state != .tripped := by
  rw [State.tripChannel]
  by_cases h : (t.ctl c).state = .tripped
  · simp only [h, if_true, State.trippedCtl, bne_self_eq_false, Bool.and_false, State.forcing_none]
    exact (State.withChan_chan t c).symm
  · have hb : ((t.ctl c).state != ChanState.tripped) = true := by simpa using h
    simp only [h, if_false, hb, Bool.and_true, State.rewriteForced_eq]
    by_cases ha : t.activeFilled = true
    · have : (t.modCtl c fun k => k.dropList.dropInjection.stopPhases).configured c = true := ha
      simp only [this, if_true]
      simp only [State.modCtl_eq, State.runEmission_eq, State.enter_eq, State.withChan_withChan,
        State.chan_withChan_same, State.watchFor_withChan, State.emissionFor_withChan]
      simp only [State.trippedCtl, h, if_false, ha, if_true]
      rfl
    · have : (t.modCtl c fun k => k.dropList.dropInjection.stopPhases).configured c = false := by
        show t.activeFilled = false; simpa using ha
      simp only [this, Bool.false_eq_true, if_false]
      simp only [State.modCtl_eq, State.enter_eq,
        State.withChan_withChan, State.chan_withChan_same, State.watchFor_withChan]
      simp only [State.trippedCtl, h, if_false, ha]
      rfl

/-- An assertion event on the whole part. -/
theorem State.trip_eq (t : State) : t.trip = t.trippedAll := by
  rw [State.trip, foldl_forcing (F := fun t c => { t.chan c with ctl := t.trippedCtl c })
    (P := fun t c => (t.ctl c).state != .tripped) State.tripChannel_eq]
  · rfl
  · intro t d x c h
    simp only [State.trippedCtl, State.emissionOn, State.ctl_eq, State.chan_withChan_other _ _ h, State.withChan_ms,
      State.withChan_hoist, State.withChan_activeFilled]
    rfl
  · intros; rfl
  · intro t d x c h; simp only [State.ctl_eq, State.chan_withChan_other _ _ h]
  · intros; rfl

/-! ## The full reset (R152) -/

theorem State.beginFullReset_eq (t : State) :
    t.beginFullReset =
      { t.mapChans t.resetChan with requests := [], activation := none, resetPending := none, freeze := false } := by
  rw [State.beginFullReset, foldl_withChan (g := State.fullResetChannel) (F := fun t c => t.resetChan c)
    (fun t c => rfl) fun t d x c h => by
      simp only [State.resetChan, State.reckon_eq, State.chan_withChan_other _ _ h]; rfl]
  rfl

theorem State.releaseChannel_eq (t : State) (c : Chan) :
    t.releaseChannel c = t.withChan c { t.chan c with
      ctl :=
        if (t.ctl c).state = .parkingSet then
          { t.ctl c with
            zeroMoment := t.moment, emission := some (t.ms + (t.hoist c).emission),
            feedback := some (t.ms + (t.hoist c).demandTimeout),
            brake := some (t.ms + (t.hoist c).brakeConfirm) }
        else { t.ctl c with zeroMoment := t.moment } } := by
  simp only [State.releaseChannel, State.restartEmission, State.restartFeedback, State.startBrake, State.modCtl_eq,
    State.ctl_eq, State.chan_withChan_same, State.withChan_withChan, State.withChan_ms, State.withChan_hoist]
  by_cases h : (t.chan c).ctl.state = .parkingSet <;> simp only [h, if_true, if_false]

theorem State.completeFullReset_eq (t : State) (straps : BitVec 4) :
    t.completeFullReset straps =
      if t.tripLine then ((t.mapChans t.releasedChan).refreshed straps).trippedAll
      else (t.mapChans t.releasedChan).refreshed straps := by
  simp only [State.completeFullReset]
  rw [foldl_withChan State.releaseChannel_eq fun t d x c h => by
    simp only [State.ctl_eq, State.chan_withChan_other _ _ h, State.withChan_ms, State.withChan_hoist,
      State.withChan_moment]; rfl]
  simp only [State.clearNotices]
  rw [foldl_withChan (g := fun t c => t.modChan c fun ch => { ch with notes := .empty })
    (F := fun t c => { t.chan c with notes := .empty }) (fun t c => rfl)
    fun t d x c h => by simp only [State.chan_withChan_other _ _ h]]
  simp only [State.sampleTrip]
  have e : ∀ v w : State, v = w → v.tripLine = t.tripLine →
      (if v.tripLine = true then v.trip else v) = if t.tripLine = true then w.trippedAll else w := by
    intro v w h1 h2; subst h1; rw [h2, State.trip_eq]
  have hs : (Source.empty : Source 12).add SupKind.resetDone.bit = ⟨0x800#12, .absent⟩ := by decide
  refine e _ _ ?_ rfl
  simp only [State.raiseSup, State.mapChans, State.refreshed, hs]
  rfl

/-! ## The completion of an ACTIVATE ALL (R18) -/

theorem State.configureChannel_eq (was : Bool) (t : State) (c : Chan) :
    t.configureChannel was c =
      (t.withChan c { t.chan c with reckon := (t.reckon c).demoted, ctl := t.configuredCtl was c }).forcing
        fun d => d == c && (t.ctl c).state == .unconfigured := by
  simp only [State.configureChannel]
  by_cases h : (t.ctl c).state = .unconfigured
  · have hb : ((t.ctl c).state == ChanState.unconfigured) = true := by simpa using h
    rw [hb]
    simp only [h, if_true, Bool.and_true, State.rewriteForced_eq]
    have e : ∀ (v : State) p g, (v.forcing p).modReckon c g = (v.modReckon c g).forcing p := fun _ _ _ => rfl
    rw [e]
    congr 1
    simp only [State.restartEmission, State.restartFeedback, State.modReckon_eq, State.modCtl_eq, State.enter_eq,
      State.withChan_withChan, State.chan_withChan_same, State.withChan_ms,
      State.withChan_hoist]
    simp only [State.configuredCtl, h, if_true]
    rfl
  · have hb : ((t.ctl c).state == ChanState.unconfigured) = false := by simpa using h
    simp only [h, if_false, hb, Bool.and_false, State.forcing_none]
    by_cases h2 : (t.ctl c).state = .tripped ∧ was = false
    · simp only [if_pos h2]
      simp only [State.restartEmission, State.restartFeedback, State.modReckon_eq, State.modCtl_eq,
        State.withChan_withChan, State.chan_withChan_same, State.withChan_ms, State.withChan_hoist]
      simp only [State.configuredCtl, h, if_pos h2, if_false]
      rfl
    · simp only [h2, if_false, State.modReckon_eq]
      simp only [State.configuredCtl, h, h2, if_false]; rfl

theorem State.activated_all_eq (t : State) :
    t.activated .all =
      (let a : State := { t with active := t.shadow, activeFilled := true, shadowDiffers := false }
      (a.mapChans fun d =>
        { a.chan d with reckon := (a.reckon d).demoted, ctl := a.configuredCtl t.activeFilled d }).forcing
          fun d => (t.ctl d).state == .unconfigured) := by
  simp only [State.activated]
  rw [foldl_forcing
    (F := fun v c => { v.chan c with reckon := (v.reckon c).demoted, ctl := v.configuredCtl t.activeFilled c })
    (P := fun t c => (t.ctl c).state == .unconfigured) (State.configureChannel_eq _)]
  · rfl
  · intro t d x c h
    simp only [State.configuredCtl, State.ctl_eq, State.reckon_eq, State.chan_withChan_other _ _ h,
      State.withChan_ms, State.withChan_hoist]
    rfl
  · intros; rfl
  · intro t d x c h; simp only [State.ctl_eq, State.chan_withChan_other _ _ h]
  · intros; rfl

end Sys2Proof.Machine
end

