-- ==== Sys2Proof/Laws/Taking.lean ====
section
/-! SUPPORT. Every way the engine's taking of a request and the end of an activation can go, for proofs over all states:
nothing is taken, or the oldest request is, with one reply. -/

namespace Sys2Proof.Machine

/-- Nothing is taken, or the oldest request is and belongs to the row. -/
theorem State.takeRequest_cases (s : State) (mine : Frame → Bool) (body : State → Frame → State) :
    s.takeRequest mine body = s
    ∨ ∃ f rest, s.engineReady = true ∧ s.requests = f :: rest ∧ mine f = true
      ∧ s.takeRequest mine body = body { s with requests := rest, reserved := true } f := by
  simp only [State.takeRequest]
  split
  · rename_i f rest h1 h2
    by_cases h : mine f = true
    · exact .inr ⟨f, rest, h1, h2, h, by rw [if_pos h]⟩
    · exact .inl (by rw [if_neg h])
  · exact .inl rfl

/-- Nothing is taken; or the oldest request is, and it is refused by the common checks or its rule acts. -/
theorem State.serve_cases (s : State) (mine : Frame → Bool) (rule : State → Frame → Reaction) :
    s.serve mine rule = s
    ∨ ∃ f rest, s.engineReady = true ∧ s.requests = f :: rest ∧ mine f = true
      ∧ ((∃ r, s.serve mine rule = State.answer { s with requests := rest, reserved := true } f r [])
        ∨ (commonCheck f = none ∧ s.serve mine rule =
          (rule { s with requests := rest, reserved := true } f).state.answer f
            (rule { s with requests := rest, reserved := true } f).result
            (rule { s with requests := rest, reserved := true } f).data)) := by
  rcases s.takeRequest_cases mine fun s f =>
      match commonCheck f with
      | some r => s.answer f r []
      | none => (rule s f).state.answer f (rule s f).result (rule s f).data with h | ⟨f, rest, h1, h2, h3, h4⟩
  · exact .inl h
  · refine .inr ⟨f, rest, h1, h2, h3, ?_⟩
    have h4 : s.serve mine rule = _ := h4
    rw [h4]
    cases hc : commonCheck f with
    | some r => exact .inl ⟨r, rfl⟩
    | none => exact .inr ⟨rfl, rfl⟩

/-- No activation of that scope ends; or it fails with a reply; or it succeeds with one. -/
theorem State.endActivation_cases (s : State) (scope : Scope) :
    s.endActivation scope = s
    ∨ (∃ f r d, s.endActivation scope = State.answer { s with activation := none } f r d)
    ∨ ∃ f d, s.scopeFailure scope = none
      ∧ s.endActivation scope = (State.activated { s with activation := none } scope).answer f .ok d := by
  have hs : ∀ x, ({ s with activation := none } : State).scopeFailure scope = x ↔ s.scopeFailure scope = x := by
    intro x; cases scope <;> exact Iff.rfl
  cases ha : s.activation with
  | none => left; simp only [State.endActivation, ha]
  | some a =>
    by_cases h1 : a.scope = scope
    · by_cases h2 : crc16 (s.shadow.image scope) ≠ a.expected
      · right; left; exact ⟨_, _, _, by simp only [State.endActivation, ha, if_pos h1, if_pos h2]; rfl⟩
      · cases h3 : s.scopeFailure scope with
        | some y =>
          right; left
          exact ⟨_, _, _, by
            simp only [State.endActivation, ha, if_pos h1, if_neg h2, (hs _).2 h3]; rfl⟩
        | none =>
          right; right
          exact ⟨_, _, rfl, by
            simp only [State.endActivation, ha, if_pos h1, if_neg h2, (hs _).2 h3]; rfl⟩
    · left; simp only [State.endActivation, ha, if_neg h1]

/-- A step is a run of the front command, or nothing. -/
theorem step_cases {s t : State} (h : step s = .next t) :
    t = s ∨ ∃ c rest, s.pending = c :: rest ∧ exec c { s with pending := rest } = .next t := by
  simp only [step] at h
  split at h
  · exact .inl (by injection h with h; exact h.symm)
  · exact .inr ⟨_, _, ‹_›, h⟩

end Sys2Proof.Machine
end

