-- ==== Sys2Proof/WellFormed.lean ====
section
/-! DEFINITION. Which commands can name an event of the part: an operand that a row's own condition bounds lies
within it. The meanings test the same bounds, so an ill-formed command is no event and changes nothing but the
clock; `wf` lets a statement say so beforehand. -/

namespace Sys2Proof

/-- The row's own condition on its operands. -/
def Instr.wf : Instr → Bool
  | .frameLenExceeded _ _ len => decide (Config.maxPayload < len.toNat)
  | .frameCut _ _ idle => decide (Config.idleGap < idle)
  | .huntIdleClear _ _ idle => decide (Config.idleGap < idle)
  | .lineStuck _ _ held => decide (Config.breakTime < held)
  | .status _ | .fetchNotices _ | .tableWrite _ | .tableRead _ | .copyActive _ | .activateAll _
  | .activateZones _ | .activateAllCompletion _ | .activateZonesCompletion _ | .listWrite _ | .listRead _
  | .startList _ | .continueList _ | .stop _ | .traffic _ | .respond _ | .park _ | .release _ | .setDepth _
  | .quiesceConditional _ | .quiesceForced _ | .thaw _ | .clearTrip _ | .resetRing _ | .resetFull _
  | .resetTakesPlace _ _ | .unknownRequest _ | .classifyUpstreamFrame _ | .classifyDownstreamFrame _
  | .toothEvent _ _ _ | .emissionExpiry _ _ | .demandTimerExpiry _ _ | .feedbackTimerExpiry _ _
  | .stallWatchExpiry _ _ | .dwellExpiry _ _ | .durationExpiry _ _ | .proveExpiry _ _
  | .brakeConfirmExpiry _ _ | .tripAssertion _ | .tripNegation _ | .resetNAssert _ | .ringReset _
  | .fullResetBegin _ | .fullResetComplete _ _ | .powerOnReset _ _ | .frameComplete _ _ _
  | .framingError _ _ | .lineFreed _ _ | .frameTransmitStart _ _ | .frameTransmitEnd _ _
  | .frameByteReceived _ _ _ => true

end Sys2Proof
end

