-- ==== Sys2Proof/Tests/Slice0.lean ====
section
/-! SUPPORT. Tests: the WellFormed smoke, a few values the manual states or that are worked by hand from its rules, and for
every statement that has hypotheses a concrete state and operands that meet them, each clause at a boundary of its
range. -/

namespace Sys2Proof.Tests

open Sys2Proof Sys2Proof.Machine

/-! ## WellFormed refuses a term beyond each row's condition -/

theorem test_wf_refuses_len_48 : (Instr.frameLenExceeded 0 .u 48#8).wf = false := by decide
theorem test_wf_refuses_cut_200 : (Instr.frameCut 0 .u 200).wf = false := by decide
theorem test_wf_refuses_idle_200 : (Instr.huntIdleClear 0 .d 200).wf = false := by decide
theorem test_wf_refuses_break_5000 : (Instr.lineStuck 0 .d 5000).wf = false := by decide
theorem test_wf_accepts_beyond :
    (Instr.frameLenExceeded 0 .u 49#8).wf = true ∧ (Instr.frameCut 0 .u 201).wf = true
    ∧ (Instr.huntIdleClear 0 .d 201).wf = true ∧ (Instr.lineStuck 0 .d 5001).wf = true := by decide

/-! ## The table gives no row any bits -/

theorem test_no_word_spells_a_command : decodeTableWord 8 0x01 = none ∧ decodeTableWord 16 0x3F01 = none := by decide

/-! ## Worked values -/

/-- R157: the generator x⁸+x⁶+x³+x²+1 from 00: the one bit of 01 leaves the generator's low bits, that of 02 their
double. -/
theorem test_crc8_of_one_bit : crc8 [0x01#8] = 0x4D#8 ∧ crc8 [0x02#8] = 0x9A#8 ∧ crc8 [] = 0x00#8 := by decide

/-- R15: the generator x¹⁶+x¹²+x⁵+1 from FFFF, no final inversion: of one byte 41 it is B915 (worked by hand). -/
theorem test_crc16_of_one_byte : crc16 [0x41#8] = 0xB915#16 ∧ crc16 [] = 0xFFFF#16 := by decide

/-- Numbers travel most significant byte first (section 8.7). -/
theorem test_number_order : natBytes 2 0x1234 = [0x12#8, 0x34#8] ∧ intBytes 2 (-2) = [0xFF#8, 0xFE#8]
    ∧ intAt [0xFF#8, 0xFE#8] 0 2 = -2 := by decide

/-- The root is rounded down. -/
theorem test_root : isqrt 24 = 4 ∧ isqrt 25 = 5 := by decide

/-- R64: a demand of the other sign first brings the output to 0; growth stops at the target. -/
theorem test_ramp : ramp 5000 (-9000) 100 2000 = 3000 ∧ ramp 1500 (-9000) 100 2000 = 0
    ∧ ramp 5000 9000 100 2000 = 5100 ∧ ramp 5000 5050 100 2000 = 5050 ∧ ramp 5000 1000 100 2000 = 3000 := by decide

/-! ## A part in the middle of its work -/

/-- The record of a hoist whose drive answers at `a`. -/
def hoistAt (a : Byte) : Hoist :=
  ⟨a, 10000, 0, 10000, 100, 200, 300, 1000, 4, 16, 500, 20, 100, 1000, 300, 10, 50, 100, 3000, 100, 1000⟩

/-- A bank that passes every check. -/
def bank : Bank where
  shaft := ⟨1000000, 0x50#8, ⟨0, 900000, 500⟩, ⟨0, 900000, 500⟩, .channelOrder⟩
  zoneCount := 2
  zones := ((Vector.replicate 32 ⟨0, 0, 0, false⟩).set 0 ⟨0, 9000, 9000, false⟩).set 1 ⟨500000, 5000, 5000, true⟩
  landmarks := (Vector.replicate 64 ⟨false, .a, 0, 0⟩).set 7 ⟨true, .a, 400000000, 5000⟩
  hoists := ⟨hoistAt 0x41#8, hoistAt 0x42#8, hoistAt 0x43#8, hoistAt 0x44#8⟩

/-- Descriptors 1 to 11 and 255: each next mode and match action, dwells of 0 and more, and successors that are let in
(1, 11), INVALID (0), OUTSIDE_STOPS (4, by 1 mm) and NO_DWELL_ZONE (3); the rest as after power-on. -/
def descs : Vector Descriptor 256 :=
  ((((((((((((Vector.replicate 256 Descriptor.initial).set 1
    ⟨300000, 2000, 0, .next, some (7, .note), true⟩).set 2
    ⟨300000, 2000, 500, .link 1, some (7, .stopSelf), false⟩).set 3
    ⟨600000, 2000, 500, .stopHere, some (7, .stopPair), false⟩).set 4
    ⟨900001, 2000, 0, .link 1, some (7, .skip), false⟩).set 5
    ⟨300000, 2000, 500, .stopHere, some (7, .skip), false⟩).set 6 ⟨300000, 2000, 500, .link 0, none, false⟩).set 7
    ⟨300000, 2000, 0, .link 0, some (7, .skip), true⟩).set 8
    ⟨300000, 2000, 0, .link 4, some (7, .skip), false⟩).set 9
    ⟨300000, 2000, 0, .link 3, some (7, .skip), false⟩).set 10
    ⟨300000, 2000, 0, .next, some (7, .skip), false⟩).set 11
    ⟨900000, 2000, 0, .stopHere, some (7, .skip), false⟩).set 255
    ⟨300000, 2000, 0, .next, some (7, .skip), true⟩

/-- A parked channel, 200 m deep. -/
def parked : Channel :=
  { Channel.powerOn ⟨0, 0⟩ with
    reckon := { Reckoning.initial with depth := 200000000, quality := .doubtful }
    ctl := { Controller.initial .parked ⟨0, 0⟩ with emission := some 20, feedback := some 100 } }

/-- Tables loaded, every channel parked. -/
def part : State :=
  { State.reset with activeFilled := true, active := bank, shadow := bank, descs := descs, chans := .fill parked }

/-- Hoist 0's controller changed. -/
def withState (st : ChanState) (f : Controller → Controller := id) : State :=
  part.withCtl .c0 (f { part.ctl .c0 with state := st })

/-- Hoist 0's output and caps changed as well. -/
def moving (s : State) (v : Int) : State := s.withChan .c0 { s.chan .c0 with gate := ⟨v, some 0, 9000, 9000⟩ }

/-- Hoist 0's reckoning record changed. -/
def reckoned (f : Reckoning → Reckoning) : State :=
  part.withChan .c0 { part.chan .c0 with reckon := f (part.reckon .c0) }

/-- Hoist 0 in LIST with a descriptor current. -/
def listing (i : Fin 256) : State :=
  withState .list fun k => { k with current := some i, evaluated := true }

/-- Hoist 0 in SUSPENDED with a descriptor current. -/
def suspendedAt (i : Fin 256) : State := withState .suspended fun k => { k with current := some i }

/-- A REQUEST frame. -/
def request (p : List Byte) : Frame :=
  Frame.sealed ⟨0xE0#8, 0x10#8, 0x3A#8, 0x05#8, p, 0x00#8⟩

/-- The part with one request waiting. -/
def asked (s : State) (p : List Byte) : State := { s with requests := [request p] }

/-- The engine takes it. -/
theorem takes {s : State} (p : List Byte) (h1 : s.activation = none) (h2 : s.resetPending = none)
    (h3 : s.resetLine = .negated) (h4 : s.portU.tx.length + s.reserved.toNat < 16) :
    (asked s p).Takes (request p) [] := ⟨h1, h2, h3, h4, rfl⟩

/-- A frame from port U or D with the given fields. -/
def frame (dest src kind : Byte) (p : List Byte) : Frame := Frame.sealed ⟨dest, src, kind, 0x01#8, p, 0x00#8⟩

/-- The part with one frame in a port's receive queue. -/
def receivedU (s : State) (f : Frame) : State := { s with portU := { s.portU with rx := [f] } }
def receivedD (s : State) (f : Frame) : State := { s with portD := { s.portD with rx := [f] } }

/-- A FEEDBACK frame of hoist 0's drive: actual speed 10, load 200, a drive state and a brake state. -/
def feedback (drive brake : Byte) : Frame :=
  frame 0x10#8 0x41#8 0x32#8 [0x00#8, 0x0A#8, 0x00#8, 0xC8#8, drive, brake]

/-! ## Commands, clock and resets -/

theorem witness_step : State.reset.pending = [] ∧ (asked part []).pending = [] := ⟨rfl, rfl⟩

theorem witness_ring_reset :
    part.resetLine = .negated ∧ ({ part with resetLine := .asserted 0 } : State).resetLine = .asserted 0
    ∧ part.now + 19999 - 0 < 20000 := by decide

theorem witness_full_reset :
    ({ part with resetLine := .asserted 0 } : State).resetLine = .asserted 0 ∧ 20000 ≤ part.now + 20000 - 0
    ∧ ({ part with resetLine := .fullReset } : State).resetLine = .fullReset := by decide

theorem witness_reset_request :
    (asked part [0x3F#8, 0x00#8]).Takes (request [0x3F#8, 0x00#8]) []
    ∧ (asked part [0x3F#8, 0x01#8]).Takes (request [0x3F#8, 0x01#8]) []
    ∧ ((asked part [0x3F#8, 0x02#8]).Takes (request [0x3F#8, 0x02#8]) [] ∧ 1 < (0x02#8 : Byte).toNat)
    ∧ (∀ x : ResetScope,
      let s : State :=
        { part with resetPending := some x, portU := { part.portU with tx := [⟨.reply, request []⟩] } }
      (∀ e ∈ s.portU.tx, e.kind ≠ .resetReply) ∧ (∀ e, s.portU.transmitting = some e → e.kind ≠ .resetReply)
      ∧ s.resetPending = some x) := by
  refine ⟨takes _ rfl rfl rfl (by decide), takes _ rfl rfl rfl (by decide),
    ⟨takes _ rfl rfl rfl (by decide), by decide⟩, fun x => ⟨?_, ?_, rfl⟩⟩
  · intro e he; rw [List.mem_singleton.1 he]; decide
  · intro e he; cases he

/-! ## Invariants: a part that works, with a command waiting -/

/-- A part with an output, a waiting DRIVE frame for the parked hoist 1 and a command. -/
def busy : State :=
  { moving (withState .trafficLive fun k => { k with demand := some 100, emission := none }) 5000 with
    pending := [.status 7]
    portD := { part.portD with
      tx := [⟨.drive .c1, frame 0x42#8 0xE0#8 0x31#8 [0x00#8, 0x00#8, 0x01#8, 0x04#8, 0x01#8]⟩] } }

theorem witness_busy_steps : ∃ t, step busy = .next t := ⟨_, rfl⟩

theorem witness_queues : busy.QueuesBounded := by
  constructor <;>
    first
    | decide
    | (constructor <;> decide)
    | (intro e he; cases he)
    | (intro c; cases c <;> decide)

theorem witness_reckoning : busy.ReckoningSound := by intro c; cases c <;> constructor <;> decide

theorem witness_gates : busy.GatesSound := by intro c; cases c <;> constructor <;> decide

theorem witness_controllers : busy.ControllersFit := by
  constructor
  · intro c; cases c <;> constructor <;> decide
  · intro h; cases h
  · intro _ c; cases c <;> decide
  · intro _ _ c; cases c <;> decide
  · intro h; cases h

/-- The trip line asserted, every channel TRIPPED, a command waiting. -/
def trippedPart : State :=
  { part with
    pending := [.proveExpiry 3 .c2], tripLine := true
    chans := .fill { parked with ctl := { parked.ctl with state := .tripped } } }

theorem witness_trip : trippedPart.TripHolds ∧ trippedPart.tripLine = true ∧ ∃ t, step trippedPart = .next t :=
  ⟨⟨fun _ _ c => by cases c <;> rfl, fun h => absurd rfl h⟩, rfl, _, rfl⟩

theorem witness_forced_frames : busy.ForcedFramesWait ∧ (busy.ctl .c1).state.forced = true := by
  refine ⟨⟨fun e he c hc _ => ?_, fun h => absurd rfl h⟩, by decide⟩
  rw [List.mem_singleton.1 he]; rfl

theorem witness_unfilled :
    ({ State.reset with pending := [.tripAssertion 1] } : State).UnfilledIsEmpty
    ∧ ∃ t, step { State.reset with pending := [.tripAssertion 1] } = .next t := ⟨fun _ => rfl, _, rfl⟩

theorem witness_tables :
    (∃ t, exec (.listWrite 0) (listing 3) = .next t) ∧ (listing 3).guarded 3 = true
    ∧ (∀ dt straps, Instr.listWrite 0 ≠ .powerOnReset dt straps)
    ∧ (∀ dt, Instr.listWrite 0 ≠ .activateAllCompletion dt)
    ∧ (∀ dt, Instr.listWrite 0 ≠ .activateZonesCompletion dt) ∧ (∀ dt, Instr.thaw 0 ≠ .listWrite dt) := by
  refine ⟨⟨_, rfl⟩, by decide, ?_, ?_, ?_, ?_⟩ <;> intros <;> intro h <;> cases h

theorem witness_outputs :
    ∃ t, exec (.emissionExpiry 20000 .c0) { moving (withState .held) 5000 with freeze := true } = .next t := ⟨_, rfl⟩

/-! ## The gate -/

theorem witness_clamp :
    (-((2 * 1000 : Nat) : Int) ≤ 3000 ∧ (3000 : Int) ≤ ((3 * 1000 : Nat) : Int))
    ∧ (((3 * 1000 : Nat) : Int) < 3001) ∧ ((-2001 : Int) < -((2 * 1000 : Nat) : Int)) := by decide

theorem witness_delta :
    (part.gate .c0).prevEval = none ∧ ((moving part 0).gate .c0).prevEval = some 0
    ∧ 999 / 1000 - 0 / 1000 < 1 ∧ 1 ≤ 1000 / 1000 - 0 / 1000 ∧ 250999 / 1000 - 0 / 1000 ≤ 250
    ∧ 250 < 251000 / 1000 - 0 / 1000 := by decide

theorem witness_ramp :
    ((0 : Int) < 1 ∧ (-1 : Int) < 0) ∧ ((0 : Int) < 1 ∧ (1 : Int) ≤ 1) ∧ ((-1 : Int) < 0 ∧ (-1 : Int) ≤ -1)
    ∧ ((0 : Int) < 1 ∧ (0 : Int) ≤ 0 ∧ (0 : Int) < 1) ∧ ((-1 : Int) < 0 ∧ (0 : Int) ≤ 0 ∧ (-1 : Int) < 0) := by decide

theorem witness_caps :
    (part.ctl .c0).state.forced = true ∧ ((withState .held).ctl .c0).state.forced = false
    ∧ (withState .held).ZonesOrdered := ⟨rfl, rfl, rfl, by decide⟩

theorem witness_forced_emission :
    part.resetLine ≠ .fullReset ∧ (part.ctl .c0).emission = some 20 ∧ 20 ≤ (part.now + 20000) / 1000
    ∧ (part.ctl .c0).state.forced = true := by decide

/-- Hoist 0 injected, with a record. -/
def injected (saved : Saved) : State :=
  withState .injected fun k =>
    { k with slot := some saved, duration := some 500, power := 1000,
             record := some ⟨10, 200, .running, .released, ⟨0, 0⟩⟩ }

theorem witness_emission (s : State) (h : s = moving (listing 2) 0 ∨ s = moving (injected .held) 5000
    ∨ s = moving (withState .parkingRamp) 5000) :
    s.resetLine ≠ .fullReset ∧ (s.ctl .c0).emission = some 20 ∧ 20 ≤ (s.now + 20000) / 1000
    ∧ (s.ctl .c0).state.forced = false ∧ (s.ctl .c0).state ≠ .trafficLive ∧ s.tripLine = false := by
  rcases h with rfl | rfl | rfl <;> decide

/-- A demand of 0 leaves an output of 0 where it is, whatever the caps. -/
theorem rest_stays (down up growth fall : Nat) :
    heldWithin down up (ramp 0 (heldWithin down up 0) growth fall) = 0 := by
  have h : heldWithin down up 0 = 0 := by
    unfold heldWithin
    rw [if_neg (by omega), if_neg (by omega)]
  have hr : ramp 0 0 growth fall = 0 := by simp [ramp, lowerBy]
  rw [h, hr, h]

/-- Hoist 0 in LIST at descriptor `i`, at `um` µm, at standstill by a record later than the zero moment. -/
def standing (i : Fin 256) (um : Nat) : State :=
  let s := withState .list fun k =>
    { k with current := some i, evaluated := true, record := some ⟨10, 200, .running, .released, ⟨0, 1⟩⟩ }
  s.withChan .c0 { s.chan .c0 with reckon := { Reckoning.initial with depth := um } }

/-- The emission of a channel that stands in LIST is taken, and finds it arrived exactly when its depth in mm lies within
the arrival window of its target. -/
theorem witness_list_emission (i : Fin 256) (um : Nat) :
    (standing i um).resetLine ≠ .fullReset ∧ ((standing i um).ctl .c0).emission = some 20
    ∧ 20 ≤ ((standing i um).now + 20000) / 1000 ∧ ((standing i um).ctl .c0).state = .list
    ∧ (standing i um).tripLine = false ∧ ((standing i um).gate .c0).out = 0
    ∧ ((standing i um).ctl .c0).current = some i ∧ ((standing i um).ctl .c0).listPhase = .approach
    ∧ ((standing i um).ctl .c0).carried = none
    ∧ ∃ f, ((standing i um).ctl .c0).record = some f ∧ f.time.later ((standing i um).ctl .c0).zeroMoment = true
      ∧ f.actual.natAbs ≤ ((standing i um).hoist .c0).standstill :=
  ⟨fun h => (by decide : ResetLine.negated ≠ .fullReset) h, rfl, (by decide : 20 ≤ (0 + 20000) / 1000), rfl, rfl, rfl,
    rfl, rfl, rfl, _, rfl, (by decide : (Moment.mk 0 1).later ⟨0, 0⟩ = true), (by decide : (10 : Int).natAbs ≤ 10)⟩

/-- The window's last millimetre, its first outside, a demand of 0 inside, and a dwell of 0 and of 500. -/
theorem witness_list_arrival :
    (∀ i : Fin 256, i ∈ [1, 2, 7, 8, 9, 10, 255] →
      ((descs[i].target : Int) - ((299950999 / 1000 : Nat) : Int)).natAbs ≤ (part.hoist .c0).arrival
      ∧ ¬ ((descs[i].target : Int) - ((299949999 / 1000 : Nat) : Int)).natAbs ≤ (part.hoist .c0).arrival
      ∧ ((standing i 299950999).advance 20000).ownDemand .c0 = 0)
    ∧ (descs[(2 : Fin 256)]).dwell = 500 ∧ (descs[(1 : Fin 256)]).dwell = 0 ∧ (descs[(255 : Fin 256)]).dwell = 0 := by
  refine ⟨fun i hi => ?_, ?_, ?_, ?_⟩
  · have ht : (descs[i]).target = 300000 := by
      simp only [List.mem_cons, List.not_mem_nil, or_false] at hi
      rcases hi with rfl | rfl | rfl | rfl | rfl | rfl | rfl <;> simp [descs]
    have ha : (part.hoist .c0).arrival = 50 := rfl
    have h1 : ((descs[i].target : Int) - ((299950999 / 1000 : Nat) : Int)).natAbs ≤ (part.hoist .c0).arrival := by
      rw [ht, ha]; decide
    refine ⟨h1, by rw [ht, ha]; decide, ?_⟩
    show ((standing i 299950999).advance 20000).approachOf .c0 i = 0
    exact if_pos (.inr h1)
  all_goals simp [descs]

/-- A dispatch DRIVE frame for hoist 0. -/
def dispatch (brake : Byte) : Frame := frame 0x41#8 0x10#8 0x31#8 [0x03#8, 0xE8#8, brake, 0x00#8, 0x00#8]

theorem witness_dispatch (st : ChanState) (h : st = .trafficLive ∨ st = .trafficLapsed) :
    let s := receivedU (withState st) (dispatch 0x00#8)
    let f := dispatch 0x00#8
    s.resetLine = .negated ∧ s.portU.rx = [f] ∧ f.dest ≠ 0x00#8 ∧ f.src ≠ 0x00#8 ∧ f.dest ≠ s.supervisor
    ∧ f.kind = 0x31#8 ∧ s.activeFilled = true ∧ (∀ d, (s.hoist d).addr = f.dest ↔ d = .c0) ∧ f.payload.length = 5
    ∧ ((s.ctl .c0).state = .trafficLive ∨ (s.ctl .c0).state = .trafficLapsed) ∧ s.tripLine = false := by
  rcases h with rfl | rfl <;>
    exact ⟨rfl, rfl, by decide, by decide, by decide, rfl, rfl, fun d => by cases d <;> decide, rfl, by decide, rfl⟩

/-! ## The reckoner -/

/-- Four intervals of 64 ms downward, so that a tooth before 48 ms is early. -/
def steady (n : Nat) : State :=
  reckoned fun r =>
    { r with lastDir := some .down, history := [64000, 64000, 64000, 64000], lastTooth := some 0, earlyCount := n }

theorem witness_tooth :
    part.resetLine ≠ .fullReset ∧ part.activeFilled = true ∧ (part.reckon .c0).lastDir ≠ some .down
    ∧ ((steady 0).reckon .c0).lastDir ≠ some .up
    ∧ (let h := (steady 0).hoist .c0
      let k := (steady 0).reckon .c0
      let p := (k.history.drop (k.history.length - h.nr)).sum / h.nr
      p - p * h.window / 64 ≤ 48000) := by decide

theorem witness_early_tooth :
    let s := steady 1
    let h := s.hoist .c0
    let k := s.reckon .c0
    let p := (k.history.drop (k.history.length - h.nr)).sum / h.nr
    s.resetLine ≠ .fullReset ∧ s.activeFilled = true ∧ k.lastDir = some .down ∧ h.nr ≤ k.history.length
    ∧ max 1 (min 10000000 (s.now + 47999 - 0)) < p - p * h.window / 64 ∧ k.earlyCount < 2
    ∧ ((steady 2).reckon .c0).earlyCount = 2 := by decide

theorem witness_landmark_error :
    let s := reckoned fun r => { r with quality := .good, goodCount := 2 }
    let t := reckoned fun r => { r with quality := .lost }
    (t.reckon .c0).quality = .lost ∧ (State.reset.reckon .c0).quality = .unreferenced
    ∧ (s.reckon .c0).quality = .good ∧ (part.reckon .c0).quality = .doubtful
    ∧ (100000 : Int).natAbs ≤ (s.hoist .c0).snap * 1000 ∧ (s.hoist .c0).snap * 1000 < (100001 : Int).natAbs
    ∧ (1000000 : Int).natAbs ≤ (s.hoist .c0).doubt * 1000
    ∧ (s.hoist .c0).doubt * 1000 < (1000001 : Int).natAbs := by decide

/-- A LANDMARK frame: number 7 passed by hoist 0, 20 ms ago. -/
def landmark : Frame := frame 0x10#8 0x50#8 0x33#8 [0x07#8, 0x00#8, 0x00#8, 0x14#8]

theorem witness_landmark_frame :
    let s := receivedD part landmark
    s.resetLine = .negated ∧ s.portD.rx = [landmark] ∧ landmark.dest ≠ 0x00#8 ∧ landmark.src ≠ 0x00#8
    ∧ landmark.kind = 0x33#8 ∧ landmark.src = s.active.shaft.signalling ∧ landmark.payload.length = 4
    ∧ byteAt landmark.payload 0 = BitVec.ofNat 8 (7 : Fin 64).val ∧ byteAt landmark.payload 1 = chanByte .c0
    ∧ (s.active.landmarks[(7 : Fin 64)]).present = true ∧ (s.active.landmarks[(7 : Fin 64)]).lane = laneOf .c0 := by
  refine ⟨rfl, rfl, by decide, by decide, rfl, rfl, rfl, rfl, rfl, ?_, ?_⟩ <;>
    simp [receivedD, part, bank, laneOf]

theorem witness_landmark_match :
    (∀ i : Fin 256, ((listing i).ctl .c0).state = .list ∧ ((listing i).ctl .c0).listPhase = .approach
      ∧ ((listing i).ctl .c0).current = some i)
    ∧ (descs[(1 : Fin 256)]).watch = some (7, .note) ∧ (descs[(2 : Fin 256)]).watch = some (7, .stopSelf)
    ∧ (descs[(3 : Fin 256)]).watch = some (7, .stopPair)
    ∧ (∀ i : Fin 256, i ∈ [4, 5, 7, 8, 9, 10, 11, 255] → (descs[i]).watch = some (7, .skip))
    ∧ (part.ctl .c0).current = none ∧ ((listing 3).ctl (partnerOf .c0)).state.forced = true := by
  refine ⟨fun i => ⟨rfl, rfl, rfl⟩, ?_, ?_, ?_, fun i hi => ?_, rfl, rfl⟩
  · simp [descs]
  · simp [descs]
  · simp [descs]
  · simp only [List.mem_cons, List.not_mem_nil, or_false] at hi
    rcases hi with rfl | rfl | rfl | rfl | rfl | rfl | rfl | rfl <;> simp [descs]

/-- Descriptors 1 and 11 are let in on hoist 0, the second at the bottom stop (R109). -/
theorem admits_one (s : State) (h1 : s.active = bank) (h2 : s.descs = descs) :
    s.Admits .c0 (s.descs[(1 : Fin 256)]) := by
  rw [h2]
  refine ⟨by decide, ?_, ?_, .inl (by decide)⟩ <;> simp only [State.lane, h1] <;> decide

theorem admits_eleven (s : State) (h1 : s.active = bank) (h2 : s.descs = descs) :
    s.Admits .c0 (s.descs[(11 : Fin 256)]) := by
  have h : s.descs[(11 : Fin 256)] = ⟨900000, 2000, 0, .stopHere, some (7, .skip), false⟩ := by
    rw [h2]; simp [descs]
  rw [h]
  refine ⟨by decide, ?_, ?_, .inl rfl⟩ <;> simp only [State.lane, h1] <;> decide

/-- Descriptors 0, 4 and 3 are barred on hoist 0, each for its own cause (R109). -/
theorem bars_each (s : State) (h1 : s.active = bank) (h2 : s.descs = descs) :
    s.Bars .c0 (s.descs[(0 : Fin 256)]) .invalid ∧ s.Bars .c0 (s.descs[(4 : Fin 256)]) .outsideStops
    ∧ s.Bars .c0 (s.descs[(3 : Fin 256)]) .noDwellZone := by
  have h0 : s.descs[(0 : Fin 256)] = Descriptor.initial := by rw [h2]; simp [descs]
  have h4 : s.descs[(4 : Fin 256)] = ⟨900001, 2000, 0, .link 1, some (7, .skip), false⟩ := by rw [h2]; simp [descs]
  have h3 : s.descs[(3 : Fin 256)] = ⟨600000, 2000, 500, .stopHere, some (7, .stopPair), false⟩ := by
    rw [h2]; simp [descs]
  rw [h0, h3, h4]
  refine ⟨.invalid rfl, .outsideStops (by decide) (.inr ?_),
    .noDwellZone ⟨500000, 5000, 5000, true⟩ (by decide) ?_ ?_ (by decide) ?_ rfl⟩ <;>
    simp only [State.lane, h1] <;> decide

/-- A successor by LINK and by NEXT, each of the three barred ones, and the two ways to have none (R107). -/
theorem successors_each (s : State) (h : s.descs = descs) :
    s.Successor 2 1 ∧ s.Successor 10 11 ∧ s.Successor 7 0 ∧ s.Successor 8 4 ∧ s.Successor 9 3
    ∧ s.NoSuccessor 5 ∧ s.NoSuccessor 255 := by
  unfold State.Successor State.NoSuccessor
  rw [h]
  refine ⟨.inl ?_, .inr ⟨?_, rfl⟩, .inl ?_, .inl ?_, .inl ?_, .inl ?_, .inr ⟨?_, rfl⟩⟩ <;> simp [descs]

/-- The states in which a completion, a skip or a CONTINUE looks for a successor hold these descriptors and this bank. -/
theorem witness_successors (i : Fin 256) (um : Nat) (p : List Byte) (s : State)
    (h : s ∈ [listing i, standing i um, suspendedAt i, asked (suspendedAt i) p]) :
    s.active = bank ∧ s.descs = descs := by
  simp only [List.mem_cons, List.not_mem_nil, or_false] at h
  rcases h with rfl | rfl | rfl | rfl <;> exact ⟨rfl, rfl⟩

/-- Hoist 0 at the descriptor that asks for a pair stop, its partner in `st`. -/
def paired (st : ChanState) : State := (listing 3).withCtl .c1 { part.ctl .c1 with state := st }

theorem witness_stop_pair :
    ((paired .trafficLive).ctl (partnerOf .c0)).state = .trafficLive
    ∧ ((paired .held).ctl (partnerOf .c0)).state = .held ∧ ((paired .held).ctl .c0).current = some 3 :=
  ⟨rfl, rfl, rfl⟩

/-! ## Ports -/

/-- Port U with a frame in reception. -/
def receiving (bytes : List Byte) (queued : List Frame) : State :=
  { part with portU := { part.portU with receiving := bytes, rx := queued } }

theorem witness_reception :
    let p := PortId.u
    let whole : List Byte := [0xE0#8, 0x10#8, 0x3A#8, 0x05#8, 0x00#8]
    let f (check : Byte) : Frame := ⟨0xE0#8, 0x10#8, 0x3A#8, 0x05#8, [], check⟩
    part.resetLine = .negated ∧ (part.port p).live = true
    ∧ (5 ≤ whole.length ∧ whole.length = (byteAt whole 4).toNat + 5)
    ∧ (∀ check, (f check).body = whole) ∧ crc8 whole ≠ ~~~(crc8 whole)
    ∧ ((receiving whole (List.replicate 7 landmark)).port p).rx.length < 8
    ∧ 8 ≤ ((receiving whole (List.replicate 8 landmark)).port p).rx.length
    ∧ (whole.dropLast.length = 4 ∧ 48 < (49#8 : Byte).toNat ∧ (48#8 : Byte).toNat ≤ 48)
    ∧ ¬ (5 ≤ whole.dropLast.length) ∧ ((receiving [] []).port p).receiving = []
    ∧ ((receiving whole []).port p).receiving ≠ [] ∧ 200 < 201 := by
  refine ⟨rfl, rfl, by decide, fun _ => rfl, ?_, ?_⟩
  · generalize crc8 _ = x
    intro h
    have := congrArg BitVec.toNat h
    rw [BitVec.toNat_not] at this
    omega
  · decide

theorem witness_hunting :
    let s : State := { part with portU := { part.portU with hunting := true } }
    s.resetLine = .negated ∧ (s.port .u).live = true ∧ (s.port .u).hunting = true := by decide

theorem witness_frame_received :
    part.resetLine = .negated ∧ (part.port .d).live = true ∧ (part.port .d).hunting = false
    ∧ (part.port .d).receiving = [] ∧ (part.port .d).rx.length < 8
    ∧ (frame 1#8 2#8 3#8 (List.replicate 48 7#8)).payload.length ≤ 48
    ∧ ∀ l : List Byte, crc8 (frame 1#8 2#8 3#8 l).body = (frame 1#8 2#8 3#8 l).check :=
  ⟨rfl, rfl, rfl, rfl, by decide, by decide, fun _ => rfl⟩

theorem witness_stuck :
    part.resetLine = .negated ∧ (part.port .u).live = true ∧ 5000 < 5001
    ∧ 5000 < (part.advance 5001).now - (part.port .u).liveSince
    ∧ (({ part with portU := { part.portU with live := false } } : State).port .u).live = false := by decide

theorem witness_transmit :
    let e : TxEntry := ⟨.passing, landmark⟩
    let s : State := { part with portD := { part.portD with tx := [e] } }
    s.resetLine = .negated ∧ (s.port .d).live = true ∧ (s.port .d).transmitting = none ∧ (s.port .d).tx = [e]
    ∧ (({ part with portD := { part.portD with transmitting := some e } } : State).port .d).transmitting = some e :=
  ⟨rfl, rfl, rfl, rfl, rfl⟩

/-- Passing entries. -/
def passing (n : Nat) : List TxEntry := List.replicate n ⟨.passing, landmark⟩

theorem witness_transmit_queues :
    part.portD.live = true ∧ part.portU.live = true ∧ part.resetLine = .negated
    ∧ (passing 11).countP TxEntry.isPassing < 12 ∧ 12 ≤ (passing 12).countP TxEntry.isPassing
    ∧ ((passing 13).countP TxEntry.isPassing < 14 ∧ (passing 13).length + 1 < 16)
    ∧ ¬ ((passing 14).countP TxEntry.isPassing < 14)
    ∧ ¬ (({ part with resetLine := .asserted 0 } : State).resetLine = .negated)
    ∧ (∀ e ∈ passing 2, e.kind ≠ .drive .c0)
    ∧ busy.portD.tx = [] ++ ⟨.drive .c1, frame 0x42#8 0xE0#8 0x31#8 [0#8, 0#8, 1#8, 4#8, 1#8]⟩ :: [] := by
  refine ⟨rfl, rfl, rfl, by decide, by decide, by decide, by decide, by decide, ?_, rfl⟩
  intro e he; rw [List.eq_of_mem_replicate he]; decide

/-! ## The classifier -/

theorem witness_upstream :
    let s := fun f => receivedU part f
    let r := request [0x01#8]
    let broadcast := frame 0xFF#8 0x10#8 0x3A#8 [0x01#8]
    let other := frame 0xFF#8 0x10#8 0x40#8 []
    let elsewhere := frame 0x99#8 0x10#8 0x31#8 []
    let every := frame 0xFF#8 0x10#8 0x31#8 [0#8, 0#8, 0#8, 0#8, 0#8]
    let short := frame 0x41#8 0x10#8 0x31#8 [0#8, 0#8, 0#8, 0#8]
    (s r).resetLine = .negated ∧ (s r).portU.rx = [r]
    ∧ ¬ ((frame 0x00#8 0x10#8 0x31#8 []).dest ≠ 0x00#8)
    ∧ (r.dest ≠ 0x00#8 ∧ r.src ≠ 0x00#8 ∧ r.kind = 0x3A#8 ∧ r.dest = (s r).supervisor)
    ∧ (List.replicate 3 r).length < 4 ∧ 4 ≤ (List.replicate 4 r).length
    ∧ (frame 0xE0#8 0x10#8 0x31#8 []).kind ≠ 0x3A#8
    ∧ (broadcast.dest = 0xFF#8 ∧ broadcast.src ≠ 0x00#8 ∧ broadcast.kind = 0x3A#8)
    ∧ (other.dest = 0xFF#8 ∧ other.dest ≠ (s other).supervisor ∧ other.kind ≠ 0x3A#8 ∧ other.kind ≠ 0x31#8)
    ∧ (every.dest = 0xFF#8 ∧ every.dest ≠ (s every).supervisor ∧ every.kind = 0x31#8
      ∧ ¬ (every.dest = 0xFF#8 ∧ every.kind = 0x3A#8) ∧ ∀ c, ((s every).hoist c).addr ≠ every.dest)
    ∧ (elsewhere.dest ≠ 0x00#8 ∧ elsewhere.dest ≠ (s elsewhere).supervisor ∧ elsewhere.dest ≠ 0xFF#8
      ∧ ∀ c, ((s elsewhere).hoist c).addr ≠ elsewhere.dest)
    ∧ (short.dest ≠ (s short).supervisor ∧ short.kind = 0x31#8 ∧ (s short).activeFilled = true
      ∧ (∀ d, ((s short).hoist d).addr = short.dest ↔ d = .c0) ∧ short.payload.length ≠ 5)
    ∧ ((s (dispatch 0#8)).ctl .c0).state ≠ .trafficLive ∧ ((s (dispatch 0#8)).ctl .c0).state ≠ .trafficLapsed := by
  refine ⟨rfl, rfl, by decide, by decide, by decide, by decide, by decide, by decide, by decide, ?_, ?_, ?_, by decide⟩
  · exact ⟨rfl, by decide, rfl, by decide, fun c => by cases c <;> decide⟩
  · exact ⟨by decide, by decide, by decide, fun c => by cases c <;> decide⟩
  · exact ⟨by decide, rfl, rfl, fun d => by cases d <;> decide, by decide⟩

/-- A FEEDBACK frame waits. -/
theorem feedback_waits {s : State} {drive brake : Byte} (h1 : s.resetLine = .negated) (h2 : s.active = bank)
    (h3 : s.activeFilled = true) :
    (receivedD s (feedback drive brake)).FeedbackWaits (feedback drive brake) [] .c0 :=
  ⟨h1, rfl, by simp [feedback, frame, Frame.sealed], by simp [feedback, frame, Frame.sealed], rfl, h3,
    fun d => by
      have : (receivedD s (feedback drive brake)).hoist d = bank.hoists.get d := by
        simp only [State.hoist, receivedD, h2]
      rw [this]
      cases d <;> simp [feedback, frame, Frame.sealed, bank, Quad.get, hoistAt], rfl⟩

theorem witness_downstream :
    (receivedD part (feedback 0x00#8 0x01#8)).FeedbackWaits (feedback 0x00#8 0x01#8) [] .c0
    ∧ ((receivedD part (feedback 0x00#8 0x01#8)).ctl .c0).state = .parked
    ∧ decodeDrive (byteAt (feedback 0x00#8 0x01#8).payload 4) ≠ .fault
    ∧ (let f := frame 0x10#8 0x41#8 0x32#8 [0#8]
      f.src ≠ 0x00#8 ∧ f.kind = 0x32#8 ∧ part.activeFilled = true ∧ (part.hoist .c0).addr = f.src
      ∧ f.payload.length ≠ 6)
    ∧ (let f := frame 0x10#8 0x50#8 0x33#8 [0#8, 0#8, 0#8]
      f.kind = 0x33#8 ∧ f.src = part.active.shaft.signalling ∧ f.payload.length ≠ 4)
    ∧ (let f := frame 0x10#8 0x50#8 0x33#8 [64#8, 0#8, 0#8, 0#8]
      f.payload.length = 4 ∧ 63 < (byteAt f.payload 0).toNat)
    ∧ (let f := frame 0x10#8 0x50#8 0x33#8 [0#8, 4#8, 0#8, 0#8]
      f.payload.length = 4 ∧ 3 < (byteAt f.payload 1).toNat)
    ∧ (frame 0x00#8 0x41#8 0x32#8 []).dest = 0x00#8
    ∧ ((frame 0x10#8 0x42#8 0x40#8 []).kind ≠ 0x32#8 ∧ (frame 0x10#8 0x42#8 0x40#8 []).kind ≠ 0x33#8) :=
  ⟨feedback_waits rfl rfl rfl, rfl, by decide, by decide, by decide, by decide, by decide, rfl, by decide⟩

/-- A landmark that is not present, and one of the other lane (R33): numbers 63 and 7, channels 0 and 2. -/
theorem witness_landmark_unknown :
    let absent := frame 0x10#8 0x50#8 0x33#8 [0x3F#8, 0x00#8, 0x00#8, 0x14#8]
    let other := frame 0x10#8 0x50#8 0x33#8 [0x07#8, 0x02#8, 0x00#8, 0x14#8]
    (receivedD part absent).portD.rx = [absent] ∧ absent.dest ≠ 0x00#8 ∧ absent.src ≠ 0x00#8 ∧ absent.kind = 0x33#8
    ∧ absent.src = part.active.shaft.signalling ∧ absent.payload.length = 4
    ∧ byteAt absent.payload 0 = BitVec.ofNat 8 (63 : Fin 64).val ∧ byteAt absent.payload 1 = chanByte .c0
    ∧ (part.active.landmarks[(63 : Fin 64)]).present = false
    ∧ other.src = part.active.shaft.signalling ∧ other.payload.length = 4
    ∧ byteAt other.payload 0 = BitVec.ofNat 8 (7 : Fin 64).val ∧ byteAt other.payload 1 = chanByte .c2
    ∧ (part.active.landmarks[(7 : Fin 64)]).lane ≠ laneOf .c2 := by
  refine ⟨rfl, by decide, by decide, rfl, rfl, rfl, rfl, rfl, ?_, rfl, rfl, rfl, rfl, ?_⟩ <;>
    simp [part, bank, laneOf]

/-- A state in which rest is confirmed by the next FEEDBACK frame: the output is 0 and the record comes later. -/
theorem witness_rest (st : ChanState) (f : Controller → Controller) (hf : ∀ k, (f k).zeroMoment = k.zeroMoment) :
    let s := receivedD (withState st f) (feedback 0x00#8 0x01#8)
    let v := s.feedbackRead 5 [] .c0 (feedback 0x00#8 0x01#8)
    s.FeedbackWaits (feedback 0x00#8 0x01#8) [] .c0 ∧ (s.gate .c0).out = 0
    ∧ v.moment.later (v.ctl .c0).zeroMoment = true
    ∧ (intAt (feedback 0x00#8 0x01#8).payload 0 2).natAbs ≤ (s.hoist .c0).standstill := by
  refine ⟨feedback_waits rfl rfl rfl, rfl, ?_, (by decide : (10 : Int).natAbs ≤ 10)⟩
  show (Moment.mk 5 1).later (f _).zeroMoment = true
  rw [hf]; exact (by decide : (Moment.mk 5 1).later ⟨0, 0⟩ = true)

theorem witness_confirmations :
    ((withState (.stopping .held)).ctl .c0).state = .stopping .held
    ∧ ((withState (.stopping .suspended)).ctl .c0).state = .stopping .suspended
    ∧ ((withState .parkingRamp).ctl .c0).state = .parkingRamp ∧ ((withState .parkingSet).ctl .c0).state = .parkingSet
    ∧ ((withState .releasingOpen).ctl .c0).state = .releasingOpen
    ∧ ¬ (((moving (withState .parkingRamp) 5000).gate .c0).out = 0)
    ∧ decodeBrake 0x01#8 = .set ∧ decodeBrake 0x02#8 ≠ .set ∧ decodeBrake 0x00#8 = .released
    ∧ decodeBrake 0x01#8 ≠ .released := by decide

/-- FEEDBACK of a channel that stands in LIST: it waits, and confirms rest; by `witness_list_arrival` the window's last
millimetre is an arrival, with a dwell of 500 or of 0, and the first outside is none. -/
theorem witness_arrival (i : Fin 256) (um : Nat) :
    let s := receivedD (standing i um) (feedback 0x00#8 0x00#8)
    let v := s.feedbackRead 5 [] .c0 (feedback 0x00#8 0x00#8)
    s.FeedbackWaits (feedback 0x00#8 0x00#8) [] .c0 ∧ (v.ctl .c0).state = .list ∧ (v.ctl .c0).current = some i
    ∧ (v.ctl .c0).listPhase = .approach ∧ (v.ctl .c0).evaluated = true ∧ (v.ctl .c0).carried = none
    ∧ (s.gate .c0).out = 0 ∧ v.moment.later (v.ctl .c0).zeroMoment = true
    ∧ (intAt (feedback 0x00#8 0x00#8).payload 0 2).natAbs ≤ (s.hoist .c0).standstill
    ∧ decodeDrive (byteAt (feedback 0x00#8 0x00#8).payload 4) ≠ .fault ∧ (s.reckon .c0).depth = um
    ∧ ((withState .list fun k => { k with listPhase := .dwell }).ctl .c0).listPhase = .dwell :=
  ⟨feedback_waits rfl rfl rfl, rfl, rfl, rfl, rfl, rfl, rfl,
    (by decide : (Moment.mk 5 1).later ⟨0, 0⟩ = true), (by decide : (10 : Int).natAbs ≤ 10), by decide, rfl, rfl⟩

theorem witness_faults :
    (receivedD (withState .held) (feedback 0x02#8 0x00#8)).FeedbackWaits (feedback 0x02#8 0x00#8) [] .c0
    ∧ decodeDrive (byteAt (feedback 0x02#8 0x00#8).payload 4) = .fault
    ∧ ((withState .held).ctl .c0).state ≠ .unconfigured ∧ ((withState .held).ctl .c0).state ≠ .tripped
    ∧ ((withState .held).ctl .c0).state ≠ .fault
    ∧ (let s := withState .list fun k => { k with watch := some ⟨0, 500⟩ }
      s.resetLine ≠ .fullReset ∧ (s.ctl .c0).watch = some ⟨0, 500⟩ ∧ (s.ctl .c0).state.watched = true
      ∧ 0 / 1000 + 500 ≤ (s.now + 500000) / 1000)
    ∧ (∀ st, st = .parkingRamp ∨ st = .parkingSet ∨ st = .releasingOpen →
      let s := withState st fun k => { k with brake := some 1000 }
      (s.ctl .c0).brake = some 1000 ∧ (s.ctl .c0).state = st ∧ 1000 ≤ (s.now + 1000000) / 1000) :=
  ⟨feedback_waits rfl rfl rfl, by decide, by decide, by decide, by decide, by decide,
    fun st _ => ⟨rfl, rfl, (by decide : 1000 ≤ (0 + 1000000) / 1000)⟩⟩

/-! ## Timers -/

theorem witness_timers :
    let s := withState .trafficLive fun k => { k with demand := some 100 }
    let r := withState .releasingProve fun k => { k with prove := some 300 }
    s.resetLine ≠ .fullReset ∧ (s.ctl .c0).demand = some 100 ∧ (s.ctl .c0).state = .trafficLive
    ∧ 100 ≤ (s.now + 100000) / 1000 ∧ ¬ (100 ≤ (s.now + 99999) / 1000) ∧ (s.ctl .c0).feedback = some 100
    ∧ (r.ctl .c0).prove = some 300 ∧ (r.ctl .c0).state = .releasingProve ∧ 300 ≤ (r.now + 300000) / 1000
    ∧ ¬ (300 ≤ (r.now + 299999) / 1000) := by decide

/-- Hoist 0 dwelling at a descriptor. -/
def dwelling (i : Fin 256) : State :=
  withState .list fun k => { k with current := some i, listPhase := .dwell, dwell := some 50 }

theorem witness_dwell (i : Fin 256) :
    (dwelling i).resetLine ≠ .fullReset ∧ ((dwelling i).ctl .c0).dwell = some 50
    ∧ 50 ≤ ((dwelling i).now + 50000) / 1000 ∧ ((dwelling i).ctl .c0).state = .list
    ∧ ((dwelling i).ctl .c0).listPhase = .dwell ∧ ((dwelling i).ctl .c0).current = some i :=
  ⟨by simp [dwelling, withState, part, State.withCtl, State.withChan, State.reset], rfl,
    (by decide : 50 ≤ (0 + 50000) / 1000), rfl, rfl, rfl⟩

/-- The clauses of a completion: successors let in by LINK and by NEXT, barred for each cause, and none. -/
theorem witness_dwell_next (i : Fin 256) :
    let u := (dwelling i).advance 50000
    (u.Successor 2 1 ∧ u.Admits .c0 (u.descs[(1 : Fin 256)]))
    ∧ (u.Successor 10 11 ∧ u.Admits .c0 (u.descs[(11 : Fin 256)]))
    ∧ (u.Successor 7 0 ∧ u.Bars .c0 (u.descs[(0 : Fin 256)]) .invalid)
    ∧ (u.Successor 8 4 ∧ u.Bars .c0 (u.descs[(4 : Fin 256)]) .outsideStops)
    ∧ (u.Successor 9 3 ∧ u.Bars .c0 (u.descs[(3 : Fin 256)]) .noDwellZone)
    ∧ u.NoSuccessor 5 ∧ u.NoSuccessor 255 := by
  intro u
  obtain ⟨h1, h2, h3, h4, h5, h6, h7⟩ := successors_each u rfl
  obtain ⟨b1, b2, b3⟩ := bars_each u rfl rfl
  exact ⟨⟨h1, admits_one u rfl rfl⟩, ⟨h2, admits_eleven u rfl rfl⟩, ⟨h3, b1⟩, ⟨h4, b2⟩, ⟨h5, b3⟩, h6, h7⟩

theorem witness_duration (saved : Saved) :
    (injected saved).resetLine ≠ .fullReset ∧ ((injected saved).ctl .c0).duration = some 500
    ∧ 500 ≤ ((injected saved).now + 500000) / 1000 ∧ ((injected saved).ctl .c0).state = .injected
    ∧ ((injected saved).ctl .c0).slot = some saved :=
  ⟨by simp [injected, withState, part, State.withCtl, State.withChan, State.reset], rfl,
    (by decide : 500 ≤ (0 + 500000) / 1000), rfl, rfl⟩

theorem witness_trip_line :
    part.tripLine = false ∧ part.resetLine ≠ .fullReset ∧ trippedPart.tripLine = true
    ∧ trippedPart.resetLine ≠ .fullReset
    ∧ ({ part with resetLine := .fullReset } : State).resetLine = .fullReset := by decide

/-! ## Requests -/

/-- Any request is taken from the part in its ordinary work. -/
theorem part_takes (st : ChanState) (f : Controller → Controller) (p : List Byte) :
    (asked (withState st f) p).Takes (request p) [] := takes p rfl rfl rfl (by decide : 0 + 0 < 16)

theorem request_payload (p : List Byte) : (request p).payload = p := rfl

theorem witness_status :
    (asked busy [0x01#8]).Takes (request [0x01#8]) [] ∧ (request [0x01#8]).payload = [0x01#8]
    ∧ (asked busy [0x01#8]).ReckoningSound ∧ (asked busy [0x01#8]).GatesSound :=
  ⟨takes _ rfl rfl rfl (by decide : 0 + 0 < 16), rfl, witness_reckoning, witness_gates⟩

/-- Notices: an INFO kind of hoist 0, an ALARM kind of hoist 2, and an INFO kind of the supervisor or none. -/
def noticed (order : NoticeOrder) (supervisor : BitVec 12) : State :=
  let bits (b : BitVec 18) : Channel := { parked with notes := ⟨b, .absent⟩ }
  { part with
    active := { bank with shaft := { bank.shaft with order := order } }
    chans := ⟨bits (1#18 <<< ChanKind.parked.bit), parked, bits (1#18 <<< ChanKind.stall.bit), parked⟩
    supNotes := ⟨supervisor, .absent⟩ }

theorem witness_fetch_channel_order : (noticed .channelOrder 0).Serves (.channel .c0) := by
  refine ⟨by decide, ?_⟩
  show ∀ y : SourceId, _
  intro y hy
  cases y with
  | supervisor => decide
  | channel c => cases c <;> first | decide | (exfalso; revert hy; decide)

theorem witness_fetch_severity_order : (noticed .severityOrder 0x800#12).Serves (.channel .c2) := by
  refine ⟨by decide, ?_⟩
  show ∀ y : SourceId, _
  intro y
  cases y with
  | supervisor => decide
  | channel c => cases c <;> decide

theorem witness_fetch_supervisor : (noticed .channelOrder 0x800#12).Serves .supervisor := by
  refine ⟨by decide, ?_⟩
  show ∀ y : SourceId, _
  intro y hy
  cases y with
  | supervisor => exfalso; revert hy; decide
  | channel c => exfalso; revert hy; cases c <;> decide

theorem witness_fetch_nothing :
    ({ part with supNotes := .empty } : State).supNotes.pending = 0
    ∧ (∀ c, (({ part with supNotes := .empty } : State).chan c).notes.pending = 0)
    ∧ (asked part [0x02#8]).Takes (request [0x02#8]) [] :=
  ⟨rfl, fun c => by cases c <;> rfl, takes _ rfl rfl rfl (by decide)⟩

theorem witness_freeze :
    (∀ c, ¬ ((part.ctl c).state = .list ∨ (part.ctl c).state = .injected ∨ (∃ d, (part.ctl c).state = .stopping d)
      ∨ (part.ctl c).state = .parkingRamp ∨ (part.ctl c).state = .parkingSet ∨ (part.ctl c).state = .releasingProve
      ∨ (part.ctl c).state = .releasingOpen ∨ ((part.ctl c).state.isTraffic = true ∧ (part.gate c).out ≠ 0)))
    ∧ (((listing 2).ctl .c0).state = .list) ∧ 1 < (0x02#8 : Byte).toNat
    ∧ (∀ p : List Byte, (asked (listing 2) p).Takes (request p) []) := by
  refine ⟨fun c => ?_, rfl, by decide, fun p => takes p rfl rfl rfl (by decide : 0 + 0 < 16)⟩
  have : (part.ctl c).state = .parked := by cases c <;> rfl
  rw [this]
  simp [ChanState.isTraffic]

theorem witness_clear_trip :
    trippedPart.tripLine = true ∧ ({ trippedPart with tripLine := false } : State).activeFilled = true
    ∧ (State.reset.tripLine = false ∧ State.reset.activeFilled = false)
    ∧ (∀ p : List Byte, (asked trippedPart p).Takes (request p) [])
    ∧ ∀ p : List Byte, (asked State.reset p).Takes (request p) [] :=
  ⟨rfl, rfl, ⟨rfl, rfl⟩, fun p => takes p rfl rfl rfl (by decide : 0 + 0 < 16),
    fun p => takes p rfl rfl rfl (by decide : 0 + 0 < 16)⟩

theorem witness_table_write :
    bank.shaft.inRange = true ∧ (hoistAt 0x41#8).inRange = true
    ∧ (let zs : List Zone := List.replicate 4 ⟨2000000, 32767, 0, true⟩
      1 ≤ zs.length ∧ zs.length ≤ 4 ∧ 28 + zs.length ≤ 32 ∧ ∀ z ∈ zs, z.inRange = true)
    ∧ (let ms : List Landmark := List.replicate 5 ⟨true, .b, 2000000000, 50000⟩
      1 ≤ ms.length ∧ ms.length ≤ 5 ∧ 59 + ms.length ≤ 64 ∧ ∀ m ∈ ms, m.inRange = true)
    ∧ ∀ p : List Byte, (asked part p).Takes (request p) [] :=
  ⟨by decide, by decide, by decide, by decide, fun p => takes p rfl rfl rfl (by decide : 0 + 0 < 16)⟩

theorem address_first (h : Hoist) : byteAt h.encode 0 = h.addr := by
  unfold Hoist.encode
  iterate 20 rw [byteAt_append_left _ (by simp)]
  rfl

/-- What TABLE_WRITE refuses: a table number, entries and fields, each one beyond its range. -/
theorem witness_table_write_refused :
    (3 < (0x04#8 : Byte).toNat ∧ 1 ≤ [0x00#8].length ∧ 0 < (0x01#8 : Byte).toNat ∧ 3 < (0x04#8 : Byte).toNat)
    ∧ (32 < (0x1D#8 : Byte).toNat + 4 ∧ 64 < (0x3C#8 : Byte).toNat + 5)
    ∧ (32 < (0x21#8 : Byte).toNat ∧ (0x1C#8 : Byte).toNat + 4 ≤ 32)
    ∧ (∀ r : Shaft, r.inRange = true → List.replicate 30 (0xFF#8 : Byte) ≠ r.encode)
    ∧ (∀ h : Hoist, h.inRange = true → List.replicate 41 (0x00#8 : Byte) ≠ h.encode)
    ∧ (∀ zs : List Zone, (∀ z ∈ zs, z.inRange = true) →
      List.replicate 9 (0xFF#8 : Byte) ≠ (zs.map Zone.encode).flatten)
    ∧ ∀ ms : List Landmark, (∀ m ∈ ms, m.inRange = true) →
      List.replicate 8 (0xFF#8 : Byte) ≠ (ms.map Landmark.encode).flatten := by
  have low {n : Nat} (h : n ≤ 2000000) : (0xFF#8 : Byte) ≠ BitVec.ofNat 8 (n / 256 ^ 3) := by
    rw [Nat.div_eq_of_lt (by omega)]; decide
  refine ⟨by decide, by decide, by decide, fun r hr h => ?_, fun r hr h => ?_, fun zs hz h => ?_, fun ms _ h => ?_⟩
  · refine low (n := r.floor) ?_ (List.cons.inj h).1
    simp only [Shaft.inRange, within, Bool.and_eq_true, decide_eq_true_eq] at hr
    omega
  · have h0 : r.addr = 0x00#8 := by rw [← address_first r, ← h]; rfl
    unfold Hoist.inRange at hr
    rw [h0] at hr
    simp [within] at hr
  · cases zs with
    | nil => exact absurd h (by decide)
    | cons z zs =>
      have h0 : (0xFF#8 : Byte) = BitVec.ofNat 8 (z.top / 256 ^ 3) := (List.cons.inj h).1
      refine low ?_ h0
      have := hz z (List.mem_cons_self ..)
      simp only [Zone.inRange, within, Bool.and_eq_true, decide_eq_true_eq] at this
      omega
  · cases ms with
    | nil => exact absurd h (by decide)
    | cons m ms =>
      have h0 : (0xFF#8 : Byte) = yesNoByte m.present := (List.cons.inj h).1
      revert h0
      cases m.present <;> decide

theorem witness_table_read :
    ((0x00#8 : Byte) = 0x00#8 ∧ part.active = part.active) ∧ ((0x01#8 : Byte) = 0x01#8 ∧ part.shadow = part.shadow)
    ∧ (1 ≤ 4 ∧ 28 + 4 ≤ 32 ∧ part.active.zoneCount < 256) ∧ 59 + 5 ≤ 64 ∧ 253 + 3 ≤ 256
    ∧ (1 < (0x02#8 : Byte).toNat ∧ 3 < (0x04#8 : Byte).toNat ∧ (0x01#8 : Byte).toNat ≤ 1)
    ∧ ((0x00#8 : Byte).toNat = 0 ∧ 4 < (0x05#8 : Byte).toNat ∧ 32 < (0x1D#8 : Byte).toNat + (0x04#8 : Byte).toNat
      ∧ 3 < (0x04#8 : Byte).toNat ∧ 256 < (0xFE#8 : Byte).toNat + (0x03#8 : Byte).toNat)
    ∧ ∀ p : List Byte, (asked part p).Takes (request p) [] :=
  ⟨⟨rfl, rfl⟩, ⟨rfl, rfl⟩, by decide, by decide, by decide, by decide, by decide,
    fun p => takes p rfl rfl rfl (by decide : 0 + 0 < 16)⟩

theorem witness_copy :
    (asked State.reset [0x12#8]).Takes (request [0x12#8]) [] ∧ (asked State.reset [0x12#8]).activeFilled = false
    ∧ (asked State.reset [0x12#8]).UnfilledIsEmpty := ⟨takes _ rfl rfl rfl (by decide), rfl, fun _ => rfl⟩

theorem witness_activate :
    (∀ c, (part.ctl c).state = .parked) ∧ ¬ (((listing 2).ctl .c0).state = .parked
      ∨ ((listing 2).ctl .c0).state = .unconfigured ∨ ((listing 2).ctl .c0).state = .tripped)
    ∧ 1 < (0x02#8 : Byte).toNat ∧ ∀ p : List Byte, (asked part p).Takes (request p) [] :=
  ⟨fun c => by cases c <;> rfl, by decide, by decide, fun p => takes p rfl rfl rfl (by decide : 0 + 0 < 16)⟩

/-- An activation in progress that expects `x`. -/
def activating (s : State) (scope : Scope) (x : BitVec 16) : State :=
  { s with activation := some ⟨scope, x, request []⟩, reserved := true }

theorem witness_activation_ends (scope : Scope) :
    (∀ (s : State) (x : BitVec 16), s.resetLine = .negated → (activating s scope x).resetLine = .negated
      ∧ (activating s scope x).activation = some ⟨scope, x, request []⟩
      ∧ (activating s scope x).shadow = s.shadow)
    ∧ crc16 (part.shadow.image scope) ≠ ~~~(crc16 (part.shadow.image scope)) := by
  refine ⟨fun _ _ h => ⟨h, rfl, rfl⟩, ?_⟩
  generalize crc16 _ = x
  intro h
  have := congrArg BitVec.toNat h
  rw [BitVec.toNat_not] at this
  omega

/-- No check fails for a part whose SHADOW is a sound bank, in either scope. -/
theorem witness_activation_succeeds :
    ∀ (scope : Scope) (x : BitVec 16) (check entry : Nat), ¬ (activating part scope x).CheckFails scope check entry := by
  have entries : bank.entries = [⟨0, 9000, 9000, false⟩, ⟨500000, 5000, 5000, true⟩] := by decide
  have sound : ∀ floor check entry, floor = 1000000 → ¬ bank.Fails floor 0xE0#8 check entry := by
    intro floor check entry hf h
    subst hf
    cases h with
    | shaftRange h => exact absurd h (by decide)
    | stops l h => revert h; cases l <;> decide
    | zoneCount h => exact absurd h (by decide)
    | firstTop z h h' => rw [entries] at h; cases h; exact h' rfl
    | ascending k z z' h h' hle =>
      rw [entries] at h h'
      match k with
      | 0 => cases h; cases h'; revert hle; decide
      | 1 => cases h'
      | _ + 2 => cases h
    | lastTop z h hle => rw [entries] at h; cases h; revert hle; decide
    | landmark n h hlt => revert n; decide
    | hoistRange c h => revert h; cases c <;> decide
    | accelerations c h => revert h; cases c <;> decide
    | speeds c h => revert h; cases c <;> decide
    | address c h =>
      rcases h with h | h | h | ⟨d, hlt, h⟩
      · revert h; cases c <;> decide
      · revert h; cases c <;> decide
      · revert h; cases c <;> decide
      · revert h hlt; cases c <;> cases d <;> decide
  intro scope x check entry h
  cases scope with
  | all => exact sound _ _ _ rfl h
  | zones => exact sound _ _ _ rfl h.2.2

/-- On the empty bank of R2 the first check that fails is 1 for scope ALL and 3 for scope ZONES, each at entry 0. -/
theorem witness_activation_fails (x : BitVec 16) :
    (activating State.reset .all x).FirstFailure .all ⟨.shaft, 0, 1⟩
    ∧ (activating State.reset .zones x).FirstFailure .zones ⟨.zones, 0, 3⟩ := by
  refine ⟨⟨.shaftRange (by decide : Bank.empty.shaft.inRange = false), fun check entry h => ?_, rfl⟩,
    ⟨⟨by decide, by decide, .zoneCount (by decide : Bank.empty.zoneCount < 1)⟩, fun check entry h => ?_, rfl⟩⟩
  · have : 1 ≤ check := by cases h <;> simp only [Nat.le_refl, Nat.reduceLeDiff]
    by_cases hc : check < 8 <;> simp [NoLater, hc] <;> omega
  · obtain ⟨h1, h2, -⟩ := h
    simp [NoLater, show check < 8 by omega]
    omega

/-- The part reports no failure on a sound bank. -/
theorem test_sound_bank_passes : part.scopeFailure .all = none ∧ part.scopeFailure .zones = none := by decide

/-- R16: the HOISTS records one by one, each by checks 8 to 11: record 0 failing the last comes before record 1 failing
the first; and checks 1 to 7 come before both, within a table the lowest entry. -/
theorem test_first_failure :
    let h0 : Hoist := { hoistAt 0xFF#8 with aR := 100 }
    let h1 : Hoist := { hoistAt 0x42#8 with pitch := 999 }
    let bad (b : Bank) : State := { part with shadow := b }
    let b : Bank := { bank with hoists := ⟨h0, h1, hoistAt 0x43#8, hoistAt 0x44#8⟩ }
    (bad b).scopeFailure .all = some ⟨.hoists, 0, 11⟩
    ∧ (bad { b with landmarks := (b.landmarks.set 63 ⟨true, .b, 1000000001, 0⟩).set 8 ⟨true, .a, 1000000001, 0⟩
           }).scopeFailure .all = some ⟨.landmarks, 8, 7⟩
    ∧ (bad { b with zones := b.zones.set 1 ⟨0, 5000, 5000, true⟩ }).scopeFailure .zones = some ⟨.zones, 1, 5⟩
    ∧ (bad { b with zones := b.zones.set 1 ⟨1000000, 5000, 5000, true⟩ }).scopeFailure .zones
      = some ⟨.zones, 1, 6⟩ := by
  decide

theorem witness_records :
    (bank.shaft.inRange = true ∧ (⟨2000000, 32767, 0, true⟩ : Zone).inRange = true)
    ∧ ((⟨true, .b, 2000000000, 50000⟩ : Landmark).inRange = true ∧ (hoistAt 0xFF#8).inRange = true)
    ∧ (⟨2000000, 32767, 65535, .link 255, some (63, .skip), true⟩ : Descriptor).inRange = true := by decide

/-- Three descriptors, every field at its largest value. -/
def largest : List Descriptor :=
  List.replicate 3 ⟨2000000, 32767, 65535, .link 255, some (63, .skip), true⟩

theorem witness_list_write :
    1 ≤ largest.length ∧ largest.length ≤ 3 ∧ 253 + largest.length ≤ 256 ∧ (∀ d ∈ largest, d.inRange = true)
    ∧ (listing 254).guarded 254 = true ∧ 253 ≤ (254 : Fin 256).val ∧ (254 : Fin 256).val < 253 + 3
    ∧ (∀ i, part.guarded i = false)
    ∧ ∀ p : List Byte, (asked (listing 254) p).Takes (request p) [] :=
  ⟨by decide, by decide, by decide, by decide, by decide, by decide, by decide, fun _ => rfl,
   fun p => takes p rfl rfl rfl (by decide : 0 + 0 < 16)⟩

/-- What LIST_WRITE refuses: index 256 among those addressed, and a target one beyond its range in the last of three. -/
theorem witness_list_write_refused :
    let ops : List Byte :=
      (List.replicate 2 Descriptor.initial.encode).flatten ++ natBytes 4 2000001 ++ List.replicate 9 (0x00#8 : Byte)
    ops.length = 13 * 3 ∧ 256 < (0xFE#8 : Byte).toNat + 3 ∧ (0xFD#8 : Byte).toNat + 3 ≤ 256
    ∧ DescriptorBytesBad ((ops.drop (13 * 2)).take 13) :=
  ⟨by decide, by decide, by decide, .inl (by decide)⟩

theorem witness_lists (i : Fin 256) (p : List Byte) :
    (asked (suspendedAt i) p).Takes (request p) [] ∧ (asked (suspendedAt i) p).freeze = false
    ∧ ((asked (suspendedAt i) p).ctl .c0).state = .suspended ∧ ((asked (suspendedAt i) p).ctl .c0).current = some i
    ∧ (asked (suspendedAt i) p).Admits .c0 ((asked (suspendedAt i) p).descs[(1 : Fin 256)])
    ∧ ((asked (suspendedAt i) p).Bars .c0 ((asked (suspendedAt i) p).descs[(0 : Fin 256)]) .invalid
      ∧ (asked (suspendedAt i) p).Bars .c0 ((asked (suspendedAt i) p).descs[(4 : Fin 256)]) .outsideStops
      ∧ (asked (suspendedAt i) p).Bars .c0 ((asked (suspendedAt i) p).descs[(3 : Fin 256)]) .noDwellZone) :=
  ⟨takes p rfl rfl rfl (by decide : 0 + 0 < 16), rfl, rfl, rfl, admits_one _ rfl rfl, bars_each _ rfl rfl⟩

/-- STOP, PARK and SET_DEPTH in any state, with any output; a deep request and one too deep. -/
theorem witness_channel_requests (st : ChanState) (f : Controller → Controller) (p : List Byte) :
    (asked (withState st f) p).Takes (request p) [] ∧ (asked (withState st f) p).freeze = false
    ∧ (asked (withState st f) p).tripLine = false ∧ (request p).payload = p
    ∧ ((asked (withState st f) p).gate .c0).out = 0 ∧ ((asked (moving (withState st f) 5000) p).gate .c0).out = 5000
    ∧ 2000000 ≤ 2000000 ∧ 2000000 < 2000001 ∧ 2000001 < 4294967296 ∧ 3 < (4#8 : Byte).toNat :=
  ⟨part_takes st f p, rfl, rfl, rfl, rfl, rfl, by decide, by decide, by decide, by decide⟩

theorem witness_respond :
    (-2147483648 : Int) ≤ -2147483648 ∧ (2147483647 : Int) < 2147483648 ∧ 0 < 1 ∧ 4294967295 < 4294967296
    ∧ ∀ p : List Byte, (asked (listing 2) p).Takes (request p) [] ∧ ((asked (listing 2) p).ctl .c0).current = some 2
      ∧ ((asked (injected .held) p).ctl .c0).state = .injected
      ∧ (asked { listing 2 with freeze := true } p).Takes (request p) []
      ∧ (asked { listing 2 with freeze := true } p).freeze = true
      ∧ ((asked part p).ctl .c0).state.forced = true :=
  ⟨by decide, by decide, by decide, by decide, fun p => ⟨takes p rfl rfl rfl (by decide : 0 + 0 < 16), rfl, rfl,
    takes p rfl rfl rfl (by decide : 0 + 0 < 16), rfl, rfl⟩⟩

/-- Confirmed rest, and a drive in fault: what PARK's clauses ask for. -/
theorem witness_park :
    (withState .held fun k => { k with record := some ⟨10, 200, .ready, .set, ⟨0, 1⟩⟩ }).rest .c0 = true
    ∧ (withState .held).rest .c0 = false
    ∧ ((withState .fault fun k => { k with record := some ⟨0, 0, .fault, .set, ⟨0, 1⟩⟩ }).ctl .c0).record
      = some ⟨0, 0, .fault, .set, ⟨0, 1⟩⟩ ∧ ((withState .fault).ctl .c0).record = none := by decide

/-- For every row a LEN that does not match, and for every row that names a channel a payload of matching LEN with
channel 4; a list index of 256. -/
theorem witness_refused_forms :
    (∀ row ∈ requestRows 0, ¬ LenMatches (row.1 :: List.replicate 6 0x00#8))
    ∧ (∀ n ∈ [32, 34], ¬ LenMatches ([0x10#8, 0x00#8] ++ List.replicate (n - 2) 0x00#8))
    ∧ (∀ row ∈ requestRows 0, namesChannel row.1 →
      ∃ ops, LenMatches ([row.1, 0x04#8] ++ ops) ∧ 3 < (byteAt ([row.1, 0x04#8] ++ ops) 1).toNat)
    ∧ 0 < (0x01#8 : Byte).toNat := by
  refine ⟨?_, ?_, ?_, by decide⟩
  · simp [requestRows, LenMatches, byteAt]
  · simp [LenMatches, byteAt]
  · intro row hr hn
    have : row.1 = 0x24#8 ∨ row.1 = 0x27#8 ∨ row.1 = 0x20#8
        ∨ row.1 ∈ [0x21#8, 0x22#8, 0x23#8, 0x25#8, 0x26#8] := by
      revert hn; simp only [namesChannel]; revert row; decide
    rcases this with h | h | h | h
    · exact ⟨List.replicate 8 0x00#8, by rw [h]; simp [LenMatches, byteAt], by simp [byteAt]⟩
    · exact ⟨List.replicate 4 0x00#8, by rw [h]; simp [LenMatches, byteAt], by simp [byteAt]⟩
    · exact ⟨List.replicate 2 0x00#8, by rw [h]; simp [LenMatches, byteAt], by simp [byteAt]⟩
    · refine ⟨[], ?_, by simp [byteAt]⟩
      simp only [List.mem_cons, List.not_mem_nil, or_false] at h
      rcases h with h | h | h | h | h <;> rw [h] <;> simp [LenMatches, byteAt]

theorem witness_refusals :
    (∀ row ∈ requestRows 0, row.1 ≠ 0x7F#8)
    ∧ ({ part with freeze := true } : State).freeze = true ∧ trippedPart.tripLine = true
    ∧ ((withState .fault).ctl .c0).state ≠ .suspended ∧ ((withState .fault).ctl .c0).state.isTraffic = false
    ∧ (∀ p : List Byte, (asked { part with freeze := true } p).Takes (request p) [])
    ∧ ∀ p : List Byte, (asked trippedPart p).Takes (request p) [] :=
  ⟨by decide, rfl, rfl, by decide, by decide, fun p => takes p rfl rfl rfl (by decide : 0 + 0 < 16),
    fun p => takes p rfl rfl rfl (by decide : 0 + 0 < 16)⟩

end Sys2Proof.Tests
end

section
/-! COPY_ACTIVE (R13): the bank it leaves in SHADOW, and the taking that gives it. -/

namespace Sys2Proof.Machine

/-- The state with SHADOW replaced by ACTIVE and the shadow-differs mark cleared. -/
def State.copiedActive (s : State) : State := { s with shadow := s.active, shadowDiffers := false }

/-- The effect and the reservation of the reply's slot touch different fields. -/
theorem copyActiveRule_reserving (s : State) (f : Frame) :
    copyActiveRule s.reserving f = acceptedAs s.copiedActive.reserving := rfl

/-- While ACTIVE was never filled, what COPY_ACTIVE leaves in SHADOW is the power-on bank of R2. -/
theorem State.UnfilledIsEmpty.copiedActive_eq {s : State} (h : s.UnfilledIsEmpty) (hu : s.activeFilled = false) :
    s.copiedActive = { s with shadow := .empty, shadowDiffers := false } := by
  have hempty : s.active = .empty := h hu
  simp only [State.copiedActive, hempty]

theorem exec_copyActive (dt : Nat) (s : State) :
    exec (.copyActive dt) s = .next ((s.advance dt).serve (hasCode codeCopy) copyActiveRule) := rfl

/-- A COPY_ACTIVE that the engine takes is never refused: its one byte passes the common checks, and the reply uses up
the slot reserved for it. -/
theorem State.Takes.exec_copyActive {s : State} {f : Frame} {rest : List Frame} (h : s.Takes f rest) (dt : Nat)
    (hf : f.payload = [codeCopy]) :
    exec (.copyActive dt) s = .next ((s.taken dt rest).copiedActive.replied f .ok []) := by
  have hmine : hasCode codeCopy f = true := hasCode_of_payload hf
  have hpass : commonCheck f = none := commonCheck_plain hf (by simp)
  have hline : (s.taken dt rest).copiedActive.resetLine = .negated := h.taken_line dt
  rw [Machine.exec_copyActive, h.serve_eq dt hmine hpass, copyActiveRule_reserving]
  exact congrArg _ (State.answer_reserving hline f .ok [])

/-- Settles O48: the taking gives the copy, and the unfilled ACTIVE bank is the empty one. -/
theorem copyActiveReplacesShadow : Obligations.CopyActiveReplacesShadow := by
  intro dt s f rest htakes hf
  have hcopy := htakes.exec_copyActive dt hf
  refine ⟨hcopy, fun hunfilled hempty => ?_⟩
  have htaken : (s.taken dt rest).UnfilledIsEmpty := hempty
  rw [hcopy, htaken.copiedActive_eq hunfilled]

end Sys2Proof.Machine
end

section
/-! The landmark error (R36 to R39): the depth it snaps to, the good-landmark count, and the notices it raises, each by
the quality before the event. -/

namespace Sys2Proof.Machine

/-- The range of R31 and R36 as a case split on the two ends. -/
theorem limitDepth_eq_ite (d : Int) :
    limitDepth d = if d < 0 then 0 else if 2000000000 < d then 2000000000 else d.toNat := by
  simp only [limitDepth, clampInt, Config.maxDepth]
  split_ifs <;> omega

/-- Raising the count by one makes it 2 exactly from 1 on, so a good landmark after a good one is GOOD (R37). -/
theorem Reckoning.countGood_eq {r : Reckoning} (hknown : r.quality = .good ∨ r.quality = .doubtful) :
    r.countGood = { r with
      goodCount := min 2 (r.goodCount + 1), quality := if 1 ≤ r.goodCount then .good else r.quality } := by
  have htwo : min 2 (r.goodCount + 1) = 2 ↔ 1 ≤ r.goodCount := by omega
  rcases hknown with hgood | hdoubtful
  · simp [Reckoning.countGood, hgood]
  · simp [Reckoning.countGood, hdoubtful, htwo]

/-- A channel of unknown depth takes the landmark's depth as it is (R36). -/
theorem State.takeError_of_unknown {s : State} {c : Chan} (n : Fin 64) (e : Int)
    (h : (s.reckon c).quality = .unreferenced ∨ (s.reckon c).quality = .lost) :
    s.takeError c n e = s.modReckon c fun r => { r.snap e with quality := .doubtful, goodCount := 0 } := by
  rcases h with h | h <;> simp only [State.takeError, h]

/-- A channel of known depth compares the error with its two limits (R37, R38, R39). -/
theorem State.takeError_of_known {s : State} {c : Chan} (n : Fin 64) (e : Int)
    (h : (s.reckon c).quality = .good ∨ (s.reckon c).quality = .doubtful) :
    s.takeError c n e =
      if e.natAbs ≤ (s.hoist c).snap * 1000 then s.modReckon c fun r => (r.snap e).countGood
      else if e.natAbs ≤ (s.hoist c).doubt * 1000 then
        (s.modReckon c fun r => { r.snap e with quality := .doubtful, goodCount := 0 }).raiseLandmarkError c n e
      else (s.raiseLandmarkError c n e).loseDepth c := by
  rcases h with h | h <;> simp only [State.takeError, h]

/-- The notices of a channel to which LANDMARK_ERROR is told (R38, R39, R182). -/
def Channel.landmarkTold (x : Channel) (n : Fin 64) (e : Int) : Source 18 :=
  { x.notes.add ChanKind.landmarkError.bit with
    detail := { x.notes.detail with landmark := some (e.tdiv 1000, n.val) } }

theorem State.raiseLandmarkError_eq (s : State) (c : Chan) (n : Fin 64) (e : Int) :
    s.raiseLandmarkError c n e = s.withChan c { s.chan c with notes := (s.chan c).landmarkTold n e } := rfl

theorem State.loseDepth_eq (s : State) (c : Chan) :
    s.loseDepth c = s.withChan c { s.chan c with
      reckon := { (s.chan c).reckon with quality := .lost, goodCount := 0 }
      notes := (s.chan c).notes.add ChanKind.depthLost.bit } := by
  simp only [State.loseDepth, State.raise_eq, State.modReckon_eq, State.chan_withChan_same, State.withChan_withChan]

/-- The record and the notices are separate parts of the channel, so a snap with its notice is one change of it. -/
theorem State.raiseLandmarkError_modReckon (s : State) (c : Chan) (n : Fin 64) (e : Int)
    (g : Reckoning → Reckoning) :
    (s.modReckon c g).raiseLandmarkError c n e = s.withChan c { s.chan c with
      reckon := g (s.chan c).reckon, notes := (s.chan c).landmarkTold n e } := by
  simp only [State.raiseLandmarkError_eq, State.modReckon_eq, State.chan_withChan_same, State.withChan_withChan,
    Channel.landmarkTold]

theorem State.loseDepth_raiseLandmarkError (s : State) (c : Chan) (n : Fin 64) (e : Int) :
    (s.raiseLandmarkError c n e).loseDepth c = s.withChan c { s.chan c with
      reckon := { (s.chan c).reckon with quality := .lost, goodCount := 0 }
      notes := ((s.chan c).landmarkTold n e).add ChanKind.depthLost.bit } := by
  simp only [State.loseDepth_eq, State.raiseLandmarkError_eq, State.chan_withChan_same, State.withChan_withChan]

/-- Settles O26: the four outcomes by the quality before the event and, at a known depth, by the two limits. -/
theorem landmarkErrorSnapsOrLoses : Obligations.LandmarkErrorSnapsOrLoses := by
  intro s c n e k snapped known snapLimit doubtLimit told
  have hsnap : k.snap e = { k with depth := snapped } := by
    rw [Reckoning.snap, limitDepth_eq_ite]
  refine ⟨fun hunknown => ?_, fun hknown hwithin => ?_, fun hknown hbeyond hwithin => ?_,
    fun hknown hbeyond hfar => ?_⟩
  · rw [State.takeError_of_unknown n e hunknown, State.modReckon_eq, ← State.reckon_eq, hsnap]
  · rw [State.takeError_of_known n e hknown, if_pos hwithin, State.modReckon_eq, ← State.reckon_eq, hsnap,
      Reckoning.countGood_eq (r := { k with depth := snapped }) hknown]
  · rw [State.takeError_of_known n e hknown, if_neg hbeyond.not_ge, if_pos hwithin,
      State.raiseLandmarkError_modReckon, ← State.reckon_eq, hsnap, Channel.landmarkTold]
  · rw [State.takeError_of_known n e hknown, if_neg hbeyond.not_ge, if_neg hfar.not_ge,
      State.loseDepth_raiseLandmarkError, ← State.reckon_eq, Channel.landmarkTold]

end Sys2Proof.Machine
end

section
/-! SET_DEPTH (R43, R44): its one reply, its request's bytes read back, the common checks on them, and what its rule
makes of them. -/

namespace Sys2Proof.Machine

/-- A request whose rule leaves the slot reserved and the line negated is answered by one REPLY, which uses the slot
up. -/
theorem State.Takes.serve_replied {s v : State} {f : Frame} {rest : List Frame} (h : s.Takes f rest) (dt : Nat)
    {mine : Frame → Bool} (hmine : mine f = true) (hcheck : commonCheck f = none) {rule : State → Frame → Reaction}
    {r : Result} {data : List Byte} (hline : v.resetLine = .negated)
    (hrule : rule (s.taken dt rest).reserving f = ⟨v.reserving, r, data⟩) :
    (s.advance dt).serve mine rule = v.replied f r data := by
  rw [h.serve_eq dt hmine hcheck, hrule]
  exact State.answer_reserving hline f r data

theorem exec_setDepth (dt : Nat) (s : State) :
    exec (.setDepth dt) s = .next ((s.advance dt).serve (hasCode codeSetDepth) setDepthRule) := rfl

/-- A SET_DEPTH of the right length passes the common checks unless its channel is above 3 (R176). -/
theorem commonCheck_setDepth {f : Frame} {ch : Byte} {mm : Nat}
    (hf : f.payload = [codeSetDepth, ch] ++ natBytes 4 mm) :
    commonCheck f = if 3 < ch.toNat then some .badChannel else none := by
  have hcode : f.code = some codeSetDepth := Frame.code_of_payload hf
  have hlen : lenOk f.payload = true := by
    simp [hf, lenOk, byteAt, codeSetDepth, codeTableWrite, codeTableRead, codeActivate, codeListWrite, codeListRead,
      codeStartList, codeRespond]
  have hchannel : byteAt f.payload 1 = ch := by rw [hf]; rfl
  have hrequest : codeSetDepth ∈ requestCodes := by decide
  have hnames : codeSetDepth ∈ channelCodes := by decide
  simp [commonCheck, hcode, hlen, hchannel, hrequest, hnames]

/-- The depth field of SET_DEPTH reads back the four bytes it was written with. -/
theorem natAt_setDepth {f : Frame} {ch : Byte} {mm : Nat} (hf : f.payload = [codeSetDepth, ch] ++ natBytes 4 mm)
    (hmm : mm < 4294967296) : natAt f.payload 2 4 = mm := by
  have := natAt_here [codeSetDepth, ch] (k := 4) (n := mm) [] (off := 2) rfl hmm
  rwa [List.append_nil, ← hf] at this

/-- SET_DEPTH's rule once its operands are read: the two refusals of R43 in order, then the record of R44. -/
theorem setDepthRule_eq {f : Frame} {c : Chan} {mm : Nat} (t : State) (hc : f.channel = c)
    (hmm : natAt f.payload 2 4 = mm) :
    setDepthRule t f =
      if 2000000 < mm then refusedAs t .badValue
      else if (t.gate c).out ≠ 0 then refusedAs t .moving
      else acceptedAs (t.withChan c { t.chan c with reckon := (t.reckon c).given mm }) := by
  rw [setDepthRule, hc, hmm]; rfl

/-- A SET_DEPTH that the engine takes and the common checks refuse. -/
theorem State.Takes.exec_setDepth_badChannel {s : State} {f : Frame} {rest : List Frame} (h : s.Takes f rest)
    (dt : Nat) {ch : Byte} {mm : Nat} (hf : f.payload = [codeSetDepth, ch] ++ natBytes 4 mm) (hch : 3 < ch.toNat) :
    exec (.setDepth dt) s = .next ((s.taken dt rest).replied f .badChannel []) := by
  have hcheck : commonCheck f = some .badChannel := by rw [commonCheck_setDepth hf, if_pos hch]
  rw [exec_setDepth, h.serve_refused dt (hasCode_of_payload hf) hcheck, State.answer_reserving (h.taken_line dt)]

/-- A SET_DEPTH that the engine takes and the common checks pass is answered as its rule says. -/
theorem State.Takes.exec_setDepth_of_rule {s v : State} {f : Frame} {rest : List Frame} (h : s.Takes f rest)
    (dt : Nat) {c : Chan} {mm : Nat} (hf : f.payload = [codeSetDepth, chanByte c] ++ natBytes 4 mm) {r : Result}
    (hline : v.resetLine = .negated)
    (hrule : setDepthRule (s.taken dt rest).reserving f = ⟨v.reserving, r, []⟩) :
    exec (.setDepth dt) s = .next (v.replied f r []) := by
  have hcheck : commonCheck f = none := by
    rw [commonCheck_setDepth hf, if_neg (by cases c <;> decide)]
  rw [exec_setDepth, h.serve_replied dt (hasCode_of_payload hf) hcheck hline hrule]

/-- Settles O59: the common checks refuse the channel, and the rule's branches are the other three outcomes. -/
theorem setDepthGivesADoubtfulDepth : Obligations.SetDepthGivesADoubtfulDepth := by
  intro dt s f rest mm htakes hmm
  refine ⟨fun ch hch hf => htakes.exec_setDepth_badChannel dt hf hch, fun c hf => ?_⟩
  have hline := htakes.taken_line dt
  have hrule := setDepthRule_eq (s.taken dt rest).reserving (Frame.channel_of_payload hf) (natAt_setDepth hf hmm)
  rw [State.reserving_gate, State.taken_gate] at hrule
  refine ⟨fun hdeep => ?_, fun hfit hmoving => ?_, fun hfit hstill => ?_⟩
  · exact htakes.exec_setDepth_of_rule dt hf hline (by rw [hrule, if_pos hdeep]; rfl)
  · exact htakes.exec_setDepth_of_rule dt hf hline (by rw [hrule, if_neg hfit.not_gt, if_pos hmoving]; rfl)
  · exact htakes.exec_setDepth_of_rule dt hf hline (by
      rw [hrule, if_neg hfit.not_gt, if_neg (not_not_intro hstill)]; rfl)

end Sys2Proof.Machine
end

section
/-! The clamp (R62): the demand within the caps, the nearer end beyond them; what the clamp leaves of the sign
and of the magnitude. -/

namespace Sys2Proof.Machine

theorem capTo_of_within {down up : Nat} {d : Int} (hlow : -((up * 1000 : Nat) : Int) ≤ d)
    (hhigh : d ≤ ((down * 1000 : Nat) : Int)) : capTo down up d = d := by
  rw [capTo_eq_heldWithin, heldWithin, if_neg hhigh.not_gt, if_neg hlow.not_gt]

theorem capTo_of_above {down up : Nat} {d : Int} (h : ((down * 1000 : Nat) : Int) < d) :
    capTo down up d = ((down * 1000 : Nat) : Int) := by
  rw [capTo_eq_heldWithin, heldWithin, if_pos h]

theorem capTo_of_below {down up : Nat} {d : Int} (h : d < -((up * 1000 : Nat) : Int)) :
    capTo down up d = -((up * 1000 : Nat) : Int) := by
  have hhigh : ¬ ((down * 1000 : Nat) : Int) < d := by omega
  rw [capTo_eq_heldWithin, heldWithin, if_neg hhigh, if_pos h]

/-- The caps are on either side of 0, so a down demand is held between 0 and itself. -/
theorem capTo_between_of_nonneg (down up : Nat) {d : Int} (h : 0 ≤ d) :
    0 ≤ capTo down up d ∧ capTo down up d ≤ d := by
  rw [capTo, clampInt]; omega

/-- An up demand is held between itself and 0. -/
theorem capTo_between_of_nonpos (down up : Nat) {d : Int} (h : d ≤ 0) :
    d ≤ capTo down up d ∧ capTo down up d ≤ 0 := by
  rw [capTo, clampInt]; omega

theorem capTo_natAbs_le (down up : Nat) (d : Int) : (capTo down up d).natAbs ≤ d.natAbs := by
  rcases le_total 0 d with h | h
  · have := capTo_between_of_nonneg down up h; omega
  · have := capTo_between_of_nonpos down up h; omega

/-- A value on `p`'s side of 0 stays there when it is held within the caps. -/
theorem mul_capTo_nonneg (down up : Nat) {p v : Int} (h : 0 ≤ p * v) : 0 ≤ p * capTo down up v := by
  rcases mul_nonneg_iff.1 h with ⟨hp, hv⟩ | ⟨hp, hv⟩
  · exact mul_nonneg hp (capTo_between_of_nonneg down up hv).1
  · exact mul_nonneg_of_nonpos_of_nonpos hp (capTo_between_of_nonpos down up hv).2

/-- Settles O17: a cap of 0 puts its end of the range at 0, and a demand's own side of 0 is kept. -/
theorem clampHoldsTheDemandWithinTheCaps : Obligations.ClampHoldsTheDemandWithinTheCaps := by
  intro down up d t lo hi
  refine ⟨capTo_of_within, capTo_of_above, capTo_of_below, fun hdown hd => ?_, fun hup hd => ?_,
    capTo_natAbs_le down up d, ?_⟩
  · have hbetween := capTo_between_of_nonneg down up hd
    subst hdown
    rcases hd.eq_or_lt with rfl | hpos
    · exact le_antisymm hbetween.2 hbetween.1
    · exact capTo_of_above hpos
  · have hbetween := capTo_between_of_nonpos down up hd
    subst hup
    rcases hd.eq_or_lt with rfl | hneg
    · exact le_antisymm hbetween.2 hbetween.1
    · exact capTo_of_below hneg
  · rw [mul_comm]
    exact mul_capTo_nonneg down up (mul_self_nonneg d)

end Sys2Proof.Machine
end

section
/-! The ramp (R64): its cases for a down target, the symmetry that gives those for an up target, and what it leaves of
the sign and of the magnitude. -/

namespace Sys2Proof.Machine

theorem lowerBy_neg (v : Int) (floor step : Nat) : lowerBy (-v) floor step = -lowerBy v floor step := by
  simp only [lowerBy, Int.sign_neg, Int.natAbs_neg, Int.neg_mul]

theorem lowerBy_zero (floor step : Nat) : lowerBy 0 floor step = 0 := by
  simp only [lowerBy, Int.sign_zero, Int.zero_mul]

theorem lowerBy_of_pos {v : Int} (h : 0 < v) (floor step : Nat) :
    lowerBy v floor step = max (floor : Int) (v - step) := by
  rw [lowerBy, Int.sign_eq_one_of_pos h]; omega

/-- Down and up are alike to the ramp. -/
theorem ramp_neg (p t : Int) (growth fall : Nat) : ramp (-p) (-t) growth fall = -ramp p t growth fall := by
  simp only [ramp, neg_eq_zero, Int.sign_neg, neg_inj, lowerBy_neg, Int.natAbs_neg, Int.neg_mul]
  split_ifs <;> rfl

/-- A target of 0, or one of the other direction, brings the output toward 0. -/
theorem ramp_of_opposite {p t : Int} (h : t = 0 ∨ (0 < t ∧ p < 0) ∨ (t < 0 ∧ 0 < p)) (growth fall : Nat) :
    ramp p t growth fall = lowerBy p 0 fall := by
  refine if_pos (h.imp_right ?_)
  rintro (⟨ht, hp⟩ | ⟨ht, hp⟩)
  · rw [Int.sign_eq_one_of_pos ht, Int.sign_eq_neg_one_of_neg hp, neg_neg]
  · rw [Int.sign_eq_neg_one_of_neg ht, Int.sign_eq_one_of_pos hp]

theorem lowerBy_zero_floor (p : Int) (fall : Nat) :
    lowerBy p 0 fall = if p.natAbs ≤ fall then 0 else if 0 < p then p - fall else p + fall := by
  rcases lt_trichotomy p 0 with hneg | rfl | hpos
  · have hflip := lowerBy_of_pos (neg_pos.2 hneg) 0 fall
    rw [lowerBy_neg] at hflip
    split_ifs <;> omega
  · simp [lowerBy_zero]
  · rw [lowerBy_of_pos hpos]
    split_ifs <;> omega

/-- A down target and an output that is not up take one of the ramp's last two cases. -/
theorem not_opposite_of_pos {p t : Int} (ht : 0 < t) (hp : 0 ≤ p) : ¬ (t = 0 ∨ t.sign = -p.sign) := by
  have hsign : 0 ≤ p.sign := Int.sign_nonneg_iff.2 hp
  rw [Int.sign_eq_one_of_pos ht]; omega

theorem ramp_of_slower {p t : Int} (ht : 0 < t) (h : t ≤ p) (growth fall : Nat) :
    ramp p t growth fall = if p - t ≤ fall then t else p - fall := by
  have hp : 0 < p := by omega
  have hle : t.natAbs ≤ p.natAbs := by omega
  rw [ramp, if_neg (not_opposite_of_pos ht hp.le), if_pos hle, lowerBy_of_pos hp]
  split_ifs <;> omega

theorem ramp_of_faster {p t : Int} (ht : 0 < t) (hp : 0 ≤ p) (h : p < t) (growth fall : Nat) :
    ramp p t growth fall = if t - p ≤ growth then t else p + growth := by
  have hgt : ¬ t.natAbs ≤ p.natAbs := by omega
  rw [ramp, if_neg (not_opposite_of_pos ht hp), if_neg hgt, Int.sign_eq_one_of_pos ht]
  split_ifs <;> omega

/-- The output moves toward the target, stops at 0 on the way to the other direction, and grows by one step at most. -/
theorem ramp_keeps_side_and_step (p t : Int) (growth fall : Nat) :
    0 ≤ p * ramp p t growth fall ∧ (ramp p t growth fall).natAbs ≤ p.natAbs + growth := by
  wlog ht : 0 ≤ t generalizing p t
  · have hflip := this (-p) (-t) (by omega)
    rwa [ramp_neg, neg_mul_neg, Int.natAbs_neg, Int.natAbs_neg] at hflip
  by_cases hopposite : t = 0 ∨ p < 0
  · rw [ramp_of_opposite (by omega), lowerBy_zero_floor]
    refine ⟨?_, by split_ifs <;> omega⟩
    rcases lt_or_ge p 0 with hneg | hnonneg
    · exact mul_nonneg_of_nonpos_of_nonpos hneg.le (by split_ifs <;> omega)
    · exact mul_nonneg hnonneg (by split_ifs <;> omega)
  · obtain ⟨hpos, hp⟩ : 0 < t ∧ 0 ≤ p := by omega
    rcases le_or_gt t p with hslower | hfaster
    · rw [ramp_of_slower hpos hslower]
      exact ⟨mul_nonneg hp (by split_ifs <;> omega), by split_ifs <;> omega⟩
    · rw [ramp_of_faster hpos hp hfaster]
      exact ⟨mul_nonneg hp (by split_ifs <;> omega), by split_ifs <;> omega⟩

end Sys2Proof.Machine
end

section
/-! The gate after an evaluation (R50, R66): neither the controller's changes nor the list's part nor the DRIVE frame
touches it, so it keeps what the evaluation found; and what the ramp's bounds say of the output it keeps. -/

namespace Sys2Proof.Machine

/-! ## What leaves the gate as it is -/

@[simp] theorem State.gate_withCtl (s : State) (c d : Chan) (k : Controller) : (s.withCtl c k).gate d = s.gate d :=
  State.gate_modCtl s c d fun _ => k

@[simp] theorem State.gate_enter (s : State) (c d : Chan) (st : ChanState) : (s.enter c st).gate d = s.gate d := by
  rw [State.enter_eq]
  exact State.gate_withCtl s c d _

@[simp] theorem State.gate_stopToHeld (s : State) (c d : Chan) : (s.stopToHeld c).gate d = s.gate d := by
  rw [State.stopToHeld_eq, State.gate_withCtl]

@[simp] theorem State.gate_becomeCurrent (s : State) (c d : Chan) (i : Fin 256) :
    (s.becomeCurrent c i).gate d = s.gate d := by
  simp only [State.becomeCurrent]
  split
  · rw [State.gate_stopToHeld, State.gate_raiseDetail, State.gate_modCtl]
  · rw [State.gate_modCtl]

@[simp] theorem State.gate_endList (s : State) (c d : Chan) : (s.endList c).gate d = s.gate d := by
  rw [State.endList, State.gate_raise, State.gate_enter, State.gate_modCtl]

@[simp] theorem State.gate_complete (s : State) (c d : Chan) (i : Fin 256) : (s.complete c i).gate d = s.gate d := by
  have hnotice : (if (s.desc i).notify then s.raise c .moveDone else s).gate d = s.gate d := by
    split
    · exact State.gate_raise s c d _
    · rfl
  simp only [State.complete]
  split
  · rw [State.gate_becomeCurrent, hnotice]
  · rw [State.gate_endList, hnotice]

@[simp] theorem State.gate_arrive (s : State) (c d : Chan) (i : Fin 256) : (s.arrive c i).gate d = s.gate d := by
  simp only [State.arrive]
  split
  · rw [State.gate_complete, State.gate_modCtl]
  · rw [State.gate_modCtl, State.gate_modCtl]

@[simp] theorem State.gate_tryArrive (s : State) (c d : Chan) : (s.tryArrive c).gate d = s.gate d := by
  unfold State.tryArrive
  split
  · rfl
  · split
    · exact State.gate_arrive s c d _
    · rfl

@[simp] theorem State.gate_listAfter (s : State) (c d : Chan) : (s.listAfter c).gate d = s.gate d := by
  unfold State.listAfter
  split
  · rw [State.gate_tryArrive, State.gate_modCtl]
  · rfl

@[simp] theorem State.gate_handDrive (s : State) (c d : Chan) (f : Frame) : (s.handDrive c f).gate d = s.gate d := by
  unfold State.handDrive
  split
  · exact State.gate_modPort s .d _ d
  · rfl

/-! ## The evaluated channel's gate -/

/-- The gate keeps the output, this moment and the caps (R66). -/
theorem State.gate_evaluate_same (s : State) (c : Chan) (src : Option Frame) :
    (s.evaluate c src).gate c = ⟨(s.evaluation c src).output, some s.now, (s.evaluation c src).downCap,
      (s.evaluation c src).upCap⟩ := by
  rw [State.evaluate_eq, State.gate_listAfter, State.gate_handDrive, State.gate_withChan_same]

/-- Within a forced state the ramped value is 0 (R61), and outside it is the ramp's; both keep the ramp's bounds. -/
theorem State.evaluation_ramped_bounds (s : State) (c : Chan) (src : Option Frame) :
    0 ≤ (s.gate c).out * (s.evaluation c src).ramped
    ∧ (s.evaluation c src).ramped.natAbs ≤ (s.gate c).out.natAbs + (s.hoist c).aR * s.delta c := by
  simp only [State.evaluation]
  split
  · simp
  · exact ramp_keeps_side_and_step _ _ _ _

theorem State.evaluation_output (s : State) (c : Chan) (src : Option Frame) :
    (s.evaluation c src).output =
      capTo (s.evaluation c src).downCap (s.evaluation c src).upCap (s.evaluation c src).ramped := rfl

/-- The cap step after the ramp keeps the side and lowers the magnitude (R65), so the ramp's bounds are the output's. -/
theorem State.evaluation_output_bounds (s : State) (c : Chan) (src : Option Frame) :
    0 ≤ (s.gate c).out * (s.evaluation c src).output
    ∧ (s.evaluation c src).output.natAbs ≤ (s.gate c).out.natAbs + (s.hoist c).aR * s.delta c := by
  obtain ⟨hside, hstep⟩ := s.evaluation_ramped_bounds c src
  rw [State.evaluation_output]
  exact ⟨mul_capTo_nonneg _ _ hside, (capTo_natAbs_le _ _ _).trans hstep⟩

/-- Settles O19: the cases of a down target, those of an up target by symmetry, and the kept output's bounds. -/
theorem rampFollowsItsThreeCases : Obligations.RampFollowsItsThreeCases := by
  refine ⟨fun p t growth fall => ?_, fun s c src => ?_⟩
  · have hflip := ramp_neg p t growth fall
    refine ⟨fun hopposite => ?_, fun ht h => ramp_of_slower ht h growth fall, fun ht h => ?_,
      fun ht hp h => ramp_of_faster ht hp h growth fall, fun ht hp h => ?_⟩
    · rw [ramp_of_opposite hopposite, lowerBy_zero_floor]
    · rw [ramp_of_slower (neg_pos.2 ht) (neg_le_neg h)] at hflip
      split_ifs at hflip ⊢ <;> omega
    · rw [ramp_of_faster (neg_pos.2 ht) (neg_nonneg.2 hp) (neg_lt_neg h)] at hflip
      split_ifs at hflip ⊢ <;> omega
  · rw [State.gate_evaluate_same]
    exact s.evaluation_output_bounds c src

end Sys2Proof.Machine
end

section
/-! The hand-over to the transmit queues (R161, R163, R164, R165): when a port takes a frame, what each of its answers
is, and where a channel's drive entry goes. -/

namespace Sys2Proof.Machine

/-- R161 and R151 as the statements write them. -/
theorem State.portOpen_iff (s : State) (p : PortId) :
    s.portOpen p = true ↔ (s.port p).live = true ∧ s.resetLine = .negated := by
  simp [State.portOpen, State.heldInReset]

/-! ## Passing frames -/

theorem State.passDown_of_closed {s : State} (hclosed : ¬ s.portOpen .d = true) (f : Frame) : s.passDown f = s :=
  if_neg hclosed

/-- Port D's one bound is on its passing entries (R164). -/
theorem State.passDown_of_open {s : State} (hopen : s.portOpen .d = true) (f : Frame) :
    s.passDown f = if s.portD.tx.countP TxEntry.isPassing < 12 then s.append .d ⟨.passing, f⟩
      else s.raisePort .downOverrun .d :=
  if_pos hopen

theorem State.passUp_of_closed {s : State} (hclosed : ¬ s.portOpen .u = true) (f : Frame) : s.passUp f = s :=
  if_neg hclosed

/-- Port U bounds its passing entries and its occupied slots, the reservation among them (R165). -/
theorem State.passUp_of_open {s : State} (hopen : s.portOpen .u = true) (f : Frame) :
    s.passUp f =
      if s.portU.tx.countP TxEntry.isPassing < 14 ∧ s.portU.tx.length + s.reserved.toNat < 16 then
        s.append .u ⟨.passing, f⟩
      else s.raisePort .upOverrun .u := by
  rw [State.passUp, if_pos hopen]
  simp only [Bool.and_eq_true, decide_eq_true_eq]
  rfl

/-! ## Drive frames -/

theorem TxEntry.isDrive_iff (c : Chan) (e : TxEntry) : e.isDrive c = true ↔ e.kind = .drive c := beq_iff_eq

/-- Entries of other kinds and other channels keep their place and their frame (R163). -/
theorem map_drive_of_absent {q : List TxEntry} {c : Chan} (habsent : ∀ e ∈ q, e.kind ≠ .drive c) (f : Frame) :
    (q.map fun e => if e.isDrive c then ⟨.drive c, f⟩ else e) = q := by
  refine (List.map_congr_left fun e he => ?_).trans (List.map_id q)
  exact if_neg (mt (TxEntry.isDrive_iff c e).1 (habsent e he))

theorem placeDrive_of_absent {q : List TxEntry} {c : Chan} (habsent : ∀ e ∈ q, e.kind ≠ .drive c) (f : Frame) :
    placeDrive q c f = q ++ [⟨.drive c, f⟩] := by
  have hnone : ¬ q.any (TxEntry.isDrive c) = true := by
    simpa only [List.any_eq_true, TxEntry.isDrive_iff, not_exists, not_and] using habsent
  rw [placeDrive, if_neg hnone]

theorem placeDrive_of_waiting {before after : List TxEntry} {c : Chan} (hbefore : ∀ e ∈ before, e.kind ≠ .drive c)
    (hafter : ∀ e ∈ after, e.kind ≠ .drive c) (old f : Frame) :
    placeDrive (before ++ ⟨.drive c, old⟩ :: after) c f = before ++ ⟨.drive c, f⟩ :: after := by
  have hwaits : TxEntry.isDrive c ⟨.drive c, old⟩ = true := (TxEntry.isDrive_iff c _).2 rfl
  have hany : (before ++ ⟨.drive c, old⟩ :: after).any (TxEntry.isDrive c) = true :=
    List.any_eq_true.2 ⟨_, List.mem_append_cons_self, hwaits⟩
  rw [placeDrive, if_pos hany, List.map_append, List.map_cons, map_drive_of_absent hbefore, map_drive_of_absent hafter,
    if_pos hwaits]

theorem State.handDrive_of_closed {s : State} (hclosed : ¬ s.portOpen .d = true) (c : Chan) (f : Frame) :
    s.handDrive c f = s :=
  if_neg hclosed

theorem State.handDrive_of_open {s : State} (hopen : s.portOpen .d = true) (c : Chan) (f : Frame) :
    s.handDrive c f = { s with portD := { s.portD with tx := placeDrive s.portD.tx c f } } :=
  if_pos hopen

/-- Settles O33: each clause is the answer of its hand-over when the port is open or closed, with the bound met or
not, and with a drive entry of the channel waiting or absent. -/
theorem framesJoinTheTransmitQueues : Obligations.FramesJoinTheTransmitQueues := by
  intro s f c openD openU roomU told
  have hopenD : s.portOpen .d = true ↔ openD := s.portOpen_iff .d
  have hopenU : s.portOpen .u = true ↔ openU := s.portOpen_iff .u
  refine ⟨fun ho hroom => ?_, fun ho hfull => ?_, fun hclosed => ?_, fun ho hroom => ?_, fun ho hfull => ?_,
    fun hclosed => ?_, fun ho habsent => ?_, fun before after old ho hqueue hbefore hafter => ?_⟩
  · rw [State.passDown_of_open (hopenD.2 ho), if_pos hroom]; rfl
  · rw [State.passDown_of_open (hopenD.2 ho), if_neg hfull.not_gt]; rfl
  · have hport := mt hopenD.1 hclosed
    exact ⟨State.passDown_of_closed hport f, State.handDrive_of_closed hport c f⟩
  · rw [State.passUp_of_open (hopenU.2 ho), if_pos hroom]; rfl
  · rw [State.passUp_of_open (hopenU.2 ho), if_neg hfull]; rfl
  · exact State.passUp_of_closed (mt hopenU.1 hclosed) f
  · rw [State.handDrive_of_open (hopenD.2 ho), placeDrive_of_absent habsent]
  · rw [State.handDrive_of_open (hopenD.2 ho), hqueue, placeDrive_of_waiting hbefore hafter]

end Sys2Proof.Machine
end

section
/-! The disposal of a frame from port U (R48, R166, R173): which channel a DEST names, what the request queue does with
a REQUEST, when the gate consumes a DRIVE frame, and the disposal by DEST and KIND. -/

namespace Sys2Proof.Machine

/-- The supervisor addresses are 0xE0 to 0xEF: no broadcast is for the supervisor alone. -/
theorem State.supervisor_ne_broadcast (s : State) : s.supervisor ≠ 0xFF#8 := by
  have hstraps : ∀ x : BitVec 4, 0xE0#8 + x.setWidth 8 ≠ 0xFF#8 := by decide
  exact hstraps s.straps

/-! ## The channel a DEST names -/

theorem State.driveAt_eq_none_iff (s : State) (a : Byte) :
    s.driveAt a = none ↔ s.activeFilled = false ∨ ∀ c, (s.hoist c).addr ≠ a := by
  cases hfilled : s.activeFilled <;> simp [State.driveAt, State.configured, hfilled]

theorem State.driveAt_of_unique {s : State} {a : Byte} {c : Chan} (hfilled : s.activeFilled = true)
    (hunique : ∀ d, (s.hoist d).addr = a ↔ d = c) : s.driveAt a = some c := by
  have hmatch : (fun d => s.configured d && (s.hoist d).addr == a) = fun d => d == c := by
    funext d
    rw [State.configured, hfilled, Bool.true_and, Bool.eq_iff_iff, beq_iff_eq, beq_iff_eq, hunique d]
  rw [State.driveAt, hmatch]
  cases c <;> rfl

/-! ## The request queue -/

theorem State.enqueueRequest_of_room {s : State} (hroom : s.requests.length < 4) (f : Frame) :
    s.enqueueRequest f = { s with requests := s.requests ++ [f] } :=
  if_pos hroom

/-- The classifier's own QUEUE_FULL reply joins port U where a slot is free and the port takes frames; otherwise it is
lost with the request (R161, R173). -/
theorem State.enqueueRequest_of_full {s : State} (hline : s.resetLine = .negated) (hfull : 4 ≤ s.requests.length)
    (f : Frame) :
    s.enqueueRequest f =
      if s.portU.tx.length + s.reserved.toNat < 16 ∧ s.portU.live = true then
        s.append .u ⟨.reply, s.replyTo f .queueFull []⟩
      else s := by
  have hport : s.portOpen .u = true ↔ s.portU.live = true := by simp [s.portOpen_iff .u, hline, State.port]
  rw [State.enqueueRequest, if_neg (show ¬ s.requests.length < Config.requestDepth from hfull.not_gt), State.sendReply,
    ← ite_and]
  exact if_congr (and_congr Iff.rfl hport) rfl rfl

/-! ## A channel's DRIVE frame -/

theorem ChanState.isTraffic_iff (st : ChanState) :
    st.isTraffic = true ↔ st = .trafficLive ∨ st = .trafficLapsed := by
  cases st <;> simp [ChanState.isTraffic]

/-- A DRIVE frame of a wrong LEN, or one that reaches a channel out of TRAFFIC, has no effect (R48). -/
theorem State.deliverDrive_of_unawaited {s : State} {c : Chan} {f : Frame}
    (h : f.payload.length ≠ 5 ∨ (s.ctl c).state ≠ .trafficLive ∧ (s.ctl c).state ≠ .trafficLapsed) :
    s.deliverDrive c f = s := by
  refine if_neg fun ⟨hlen, htraffic⟩ => ?_
  obtain hwrong | ⟨hlive, hlapsed⟩ := h
  · exact hwrong hlen
  · exact ((ChanState.isTraffic_iff _).1 htraffic).elim hlive hlapsed

/-! ## The disposal -/

theorem exec_classifyUpstreamFrame {s : State} {f : Frame} {rest : List Frame} (hline : s.resetLine = .negated)
    (hwait : s.portU.rx = f :: rest) (dt : Nat) :
    exec (.classifyUpstreamFrame dt) s =
      .next (State.disposeUpstream { s.advance dt with portU := { s.portU with rx := rest } } f) := by
  have hheld : (s.advance dt).heldInReset = false := by simp [State.heldInReset, hline]
  have hqueue : (s.advance dt).portU.rx = f :: rest := hwait
  show execClassifyUpstreamFrame dt s = _
  rw [execClassifyUpstreamFrame]
  simp only [hheld, hqueue]
  rfl

theorem State.disposeUpstream_of_null (s : State) {f : Frame} (hnull : ¬ (f.dest ≠ 0x00#8 ∧ f.src ≠ 0x00#8)) :
    s.disposeUpstream f = s :=
  if_pos (by simpa only [not_and_or, not_not] using hnull)

section
variable {s : State} {f : Frame} (hreal : f.dest ≠ 0x00#8 ∧ f.src ≠ 0x00#8)
include hreal

/-- For the supervisor alone: a REQUEST goes to the queue, any other frame is consumed. -/
theorem State.disposeUpstream_of_own (hdest : f.dest = s.supervisor) :
    s.disposeUpstream f = if f.kind = 0x3A#8 then s.enqueueRequest f else s := by
  rw [State.disposeUpstream, if_neg (not_or.2 hreal), if_pos hdest]
  rfl

/-- A broadcast REQUEST goes to the queue and down besides. -/
theorem State.disposeUpstream_of_broadcast (hdest : f.dest = 0xFF#8) (hkind : f.kind = 0x3A#8) :
    s.disposeUpstream f = (s.enqueueRequest f).passDown f := by
  have hother : f.dest ≠ s.supervisor := hdest ▸ s.supervisor_ne_broadcast.symm
  rw [State.disposeUpstream, if_neg (not_or.2 hreal), if_neg hother, if_pos ⟨hdest, hkind⟩]

/-- Every other frame goes down, a DRIVE frame for a configured channel excepted. -/
theorem State.disposeUpstream_of_passing (hdest : f.dest ≠ s.supervisor)
    (hrequest : ¬ (f.dest = 0xFF#8 ∧ f.kind = 0x3A#8)) (hpassing : f.kind ≠ 0x31#8 ∨ s.driveAt f.dest = none) :
    s.disposeUpstream f = s.passDown f := by
  have hqueue : ¬ (f.dest = 0xFF#8 ∧ f.kind = kindRequest) := hrequest
  rw [State.disposeUpstream, if_neg (not_or.2 hreal), if_neg hdest, if_neg hqueue]
  cases hdrive : s.driveAt f.dest with
  | none => rfl
  | some c =>
    have hkind : f.kind ≠ kindDrive := hpassing.resolve_right (by simp [hdrive])
    exact if_neg hkind

/-- A DRIVE frame for a configured channel goes to its gate. -/
theorem State.disposeUpstream_of_drive {c : Chan} (hdest : f.dest ≠ s.supervisor) (hkind : f.kind = 0x31#8)
    (hdrive : s.driveAt f.dest = some c) : s.disposeUpstream f = s.deliverDrive c f := by
  have hrequest : ¬ (f.dest = 0xFF#8 ∧ f.kind = kindRequest) := fun h => absurd (hkind.symm.trans h.2) (by decide)
  rw [State.disposeUpstream, if_neg (not_or.2 hreal), if_neg hdest, if_neg hrequest, hdrive]
  exact if_pos hkind

end

/-- Settles O34: each clause is the disposal of its DEST and KIND, with the request queue's answer at its room or at
its bound. -/
theorem upstreamFramesAreDisposedOf : Obligations.UpstreamFramesAreDisposedOf := by
  intro dt s f rest hline hwait u queued real request full
  have hexec {t : State} (h : u.disposeUpstream f = t) : exec (.classifyUpstreamFrame dt) s = .next t :=
    (exec_classifyUpstreamFrame hline hwait dt).trans (congrArg _ h)
  have hqueued (hroom : s.requests.length < 4) : u.enqueueRequest f = queued :=
    State.enqueueRequest_of_room (s := u) hroom f
  have hfull (hno : 4 ≤ s.requests.length) : u.enqueueRequest f = full :=
    State.enqueueRequest_of_full (s := u) hline hno f
  have hown (hreal : real) (hkind : request) (hdest : f.dest = s.supervisor) :
      u.disposeUpstream f = u.enqueueRequest f :=
    (State.disposeUpstream_of_own (s := u) hreal hdest).trans (if_pos hkind)
  refine ⟨fun hnull => hexec ?_, fun hreal hkind hdest hroom => hexec ?_, fun hreal hkind hdest hno => hexec ?_,
    fun hreal hkind hdest => hexec ?_, fun hreal hkind hdest hroom => hexec ?_, fun hreal hkind hdest hno => hexec ?_,
    fun hreal hdest hrequest hpassing => hexec ?_, fun c hreal hdest hkind hfilled hunique hidle => hexec ?_⟩
  · exact State.disposeUpstream_of_null u hnull
  · exact (hown hreal hkind hdest).trans (hqueued hroom)
  · exact (hown hreal hkind hdest).trans (hfull hno)
  · exact (State.disposeUpstream_of_own (s := u) hreal hdest).trans (if_neg hkind)
  · rw [State.disposeUpstream_of_broadcast hreal hdest hkind, hqueued hroom]
  · rw [State.disposeUpstream_of_broadcast hreal hdest hkind, hfull hno]
  · exact State.disposeUpstream_of_passing hreal hdest hrequest (hpassing.imp_right (u.driveAt_eq_none_iff f.dest).2)
  · have hdrive : u.driveAt f.dest = some c := State.driveAt_of_unique (s := u) hfilled hunique
    rw [State.disposeUpstream_of_drive (s := u) hreal hdest hkind hdrive]
    exact State.deliverDrive_of_unawaited hidle

end Sys2Proof.Machine
end


section
/-! The step and the resets (R151 to R155): each command's next state, read off the explicit forms of the trip and of
the full reset. -/

namespace Sys2Proof.Machine

/-- Settles O1: both clauses are the two branches of `step`. -/
theorem stepRunsTheFrontCommand : Obligations.StepRunsTheFrontCommand := by
  refine ⟨fun c cs s => rfl, fun s hidle => ?_⟩
  rw [step, hidle]

/-! ## Power-on -/

/-- The part at power-on before TRIP_N is sampled (R154). -/
def State.poweredOn (s : State) (straps : BitVec 4) : State :=
  { State.reset with
    pending := s.pending, now := s.now, serial := s.serial, straps := straps, tripLine := s.tripLine,
    chans := .fill (.powerOn s.moment), portU := .initial s.now, portD := .initial s.now }

theorem exec_powerOnReset (dt : Nat) (straps : BitVec 4) (s : State) :
    exec (.powerOnReset dt straps) s = .next ((s.advance dt).poweredOn straps).sampleTrip := rfl

/-- R150: the sampled level of TRIP_N decides whether the channels are tripped. -/
theorem State.sampleTrip_eq (s : State) : s.sampleTrip = if s.tripLine then s.trippedAll else s := by
  rw [State.sampleTrip, State.trip_eq]

/-- Without a hoist record an assertion changes the state of an initial controller alone (R147). -/
theorem State.trippedCtl_of_initial {s : State} {c : Chan} {m : Moment} (hctl : s.ctl c = .initial .unconfigured m)
    (hunfilled : s.activeFilled = false) : s.trippedCtl c = .initial .tripped m := by
  simp [State.trippedCtl, hctl, hunfilled, Controller.initial, Controller.bare, Controller.unlisted]

theorem State.trippedAll_poweredOn (s : State) (straps : BitVec 4) :
    (s.poweredOn straps).trippedAll =
      { s.poweredOn straps with
        chans := .fill ⟨.initial, .initial, .initial .tripped s.moment, .empty⟩, supNotes := ⟨0x801#12, .absent⟩ } := by
  have hctl (c : Chan) : (s.poweredOn straps).trippedCtl c = .initial .tripped s.moment :=
    State.trippedCtl_of_initial (by cases c <;> rfl) rfl
  have hnotes : resetDoneOnly.add SupKind.tripAsserted.bit = ⟨0x801#12, .absent⟩ := by decide
  simp only [State.trippedAll, hctl, show (s.poweredOn straps).supNotes = resetDoneOnly from rfl, hnotes]
  rfl

/-- Settles O3: without hoist records an assertion changes the state and the notice alone (R147). -/
theorem powerOnResetSetsEveryBlock : Obligations.PowerOnResetSetsEveryBlock := by
  intro dt straps s m
  rw [exec_powerOnReset, State.sampleTrip_eq]
  have hline : ((s.advance dt).poweredOn straps).tripLine = s.tripLine := rfl
  rw [hline]
  by_cases hasserted : s.tripLine = true
  · simp only [if_pos hasserted, State.trippedAll_poweredOn]; rfl
  · simp only [if_neg hasserted]; rfl

/-! ## RESET_N -/

/-- A ring reset field by field (R151, R155, R172). -/
theorem State.ringReset_eq (s : State) :
    s.ringReset = { s with
      resetLine := .negated, portU := .initial s.now, portD := .initial s.now, reserved := false, requests := [],
      activation := none, resetPending := none, supNotes := s.supNotes.add SupKind.resetDone.bit } := rfl

theorem exec_resetNAssert {s : State} (hline : s.resetLine = .negated) (dt : Nat) :
    exec (.resetNAssert dt) s = .next { s.advance dt with
      resetLine := .asserted (s.now + dt), portU := s.portU.hold, portD := s.portD.hold, reserved := false,
      activation := none, resetPending := none } := by
  show execResetNAssert dt s = _
  rw [execResetNAssert]
  exact congrArg _ (if_pos hline)

theorem exec_ringReset {s : State} {t₀ : Nat} (hline : s.resetLine = .asserted t₀) (dt : Nat) :
    exec (.ringReset dt) s =
      .next (if s.now + dt - t₀ < 20000 then (s.advance dt).ringReset else s.advance dt) := by
  show execRingReset dt s = _
  simp only [execRingReset, State.advance_resetLine, hline]
  rfl

theorem exec_fullResetBegin {s : State} {t₀ : Nat} (hline : s.resetLine = .asserted t₀) (dt : Nat) :
    exec (.fullResetBegin dt) s =
      .next (if 20000 ≤ s.now + dt - t₀ then { (s.advance dt).beginFullReset with resetLine := .fullReset }
        else s.advance dt) := by
  show execFullResetBegin dt s = _
  simp only [execFullResetBegin, State.advance_resetLine, hline]
  rfl

theorem exec_fullResetComplete {s : State} (hline : s.resetLine = .fullReset) (dt : Nat) (straps : BitVec 4) :
    exec (.fullResetComplete dt straps) s = .next ((s.advance dt).completeFullReset straps) := by
  show execFullResetComplete dt straps s = _
  rw [execFullResetComplete]
  exact congrArg _ (if_pos hline)

/-- Settles O4: the assertion's and the release's next states, the release within 20 ms. -/
theorem ringResetKeepsTheChannels : Obligations.RingResetKeepsTheChannels := by
  refine ⟨fun dt s hline => exec_resetNAssert hline dt, fun dt t₀ s hline hshort => ?_⟩
  rw [exec_ringReset hline, if_pos hshort]
  rfl

/-- Settles O5: the beginning and the completion on all channels at once. -/
theorem fullResetRestartsTheChannels : Obligations.FullResetRestartsTheChannels := by
  refine ⟨fun dt t₀ s hline hlong => ?_, fun dt straps s hline => ?_⟩
  · rw [exec_fullResetBegin hline, if_pos hlong, State.beginFullReset_eq]
  · rw [exec_fullResetComplete hline, State.completeFullReset_eq]
    rfl

/-! ## The RESET request -/

/-- The RESET reply is seen to have gone when neither the queue nor the transmission holds it (log 13). -/
theorem State.resetReplyGone_of_absent {s : State} (hqueue : ∀ e ∈ s.portU.tx, e.kind ≠ .resetReply)
    (hsending : ∀ e, s.portU.transmitting = some e → e.kind ≠ .resetReply) : s.resetReplyGone = true := by
  have hall : s.portU.tx.all (fun e => e.kind != .resetReply) = true := by
    simpa only [List.all_eq_true, bne_iff_ne] using hqueue
  rw [State.resetReplyGone, hall]
  cases hsent : s.portU.transmitting with
  | none => rfl
  | some e => simpa using hsending e hsent

theorem exec_resetTakesPlace {s : State} (hgone : s.resetReplyGone = true) (dt : Nat) (straps : BitVec 4) :
    exec (.resetTakesPlace dt straps) s = .next (match s.resetPending with
      | some .ring => (s.advance dt).ringReset
      | some .full => (s.advance dt).beginFullReset.completeFullReset straps
      | none => s.advance dt) := by
  have hgone' : (s.advance dt).resetReplyGone = true := hgone
  show execResetTakesPlace dt straps s = _
  simp only [execResetTakesPlace, State.advance_resetPending, hgone']
  cases s.resetPending with
  | none => rfl
  | some scope => cases scope <;> rfl

/-- The common checks pass a request of a known code and a matching LEN that names no channel above 3 (R176). -/
theorem commonCheck_of_fit {f : Frame} {code : Byte} {ops : List Byte} (h : f.payload = code :: ops)
    (hknown : code ∈ requestCodes) (hlen : lenOk f.payload = true)
    (hchannel : code ∉ channelCodes ∨ (byteAt f.payload 1).toNat ≤ 3) : commonCheck f = none := by
  have hname : (channelCodes.contains code && decide (3 < (byteAt f.payload 1).toNat)) = false := by
    simpa [or_iff_not_imp_left] using hchannel
  simp only [commonCheck, Frame.code_of_payload h, hlen, hname]
  simp [hknown]

/-- A row takes a two-byte request of its code unless the operand names the other row. -/
theorem hasScope_of_mode {f : Frame} {b x other : Byte} (h : f.payload = [b, x]) (hx : x ≠ other) :
    hasScope b other f = true := by
  have hoperand : (byteAt f.payload 1 == other) = false := by rw [h]; exact beq_eq_false_iff_ne.2 hx
  rw [hasScope, hasCode_of_payload h, hoperand, Bool.and_false]
  rfl

/-- RESET's body on a well-formed request, by its scope (R153, R178). -/
theorem State.takeReset_of_mode {f : Frame} {x : Byte} (h : f.payload = [codeReset, x]) (t : State) :
    t.takeReset f =
      if x = 0x00#8 then ({ t with resetPending := some .ring } : State).answerAs .resetReply f .ok []
      else if x = 0x01#8 then ({ t with resetPending := some .full } : State).answerAs .resetReply f .ok []
      else t.answer f .badValue [] := by
  have hpass : commonCheck f = none := commonCheck_of_fit h (by decide) (by rw [h]; rfl) (.inl (by decide))
  have hoperand : byteAt f.payload 1 = x := by rw [h]; rfl
  simp only [State.takeReset, hpass, hoperand]

section
variable {s : State} {f : Frame} {rest : List Frame} (h : s.Takes f rest) (dt : Nat) {x : Byte}
include h

theorem State.Takes.exec_resetRing (hf : f.payload = [codeReset, x]) (hx : x ≠ 0x01#8) :
    exec (.resetRing dt) s = .next ((s.taken dt rest).reserving.takeReset f) :=
  congrArg _ (h.takeRequest_eq dt (hasScope_of_mode hf hx) State.takeReset)

theorem State.Takes.exec_resetFull (hf : f.payload = [codeReset, x]) (hx : x ≠ 0x00#8) :
    exec (.resetFull dt) s = .next ((s.taken dt rest).reserving.takeReset f) :=
  congrArg _ (h.takeRequest_eq dt (hasScope_of_mode hf hx) State.takeReset)

end

/-- A byte above 1 names neither of two rows. -/
theorem ne_of_one_lt_toNat {x : Byte} (h : 1 < x.toNat) : x ≠ 0x00#8 ∧ x ≠ 0x01#8 := by
  constructor <;> rintro rfl <;> exact absurd h (by decide)

/-- Settles O6: the three replies by scope, then the two resets once the reply has gone. -/
theorem resetRequestTakesPlaceAfterItsReply : Obligations.ResetRequestTakesPlaceAfterItsReply := by
  refine ⟨fun dt s f rest htakes hf => ?_, fun dt s f rest htakes hf => ?_,
    fun dt s f rest scope htakes hscope hf row hrow => ?_, fun dt straps s hqueue hsending => ?_⟩
  · rw [htakes.exec_resetRing dt hf (by decide), State.takeReset_of_mode hf, if_pos rfl]
    exact congrArg _ (State.answerAs_reserving (t := { s.taken dt rest with resetPending := some .ring })
      (htakes.taken_line dt) .resetReply f .ok [])
  · rw [htakes.exec_resetFull dt hf (by decide), State.takeReset_of_mode hf, if_neg (by decide), if_pos rfl]
    exact congrArg _ (State.answerAs_reserving (t := { s.taken dt rest with resetPending := some .full })
      (htakes.taken_line dt) .resetReply f .ok [])
  · obtain ⟨hring, hfull⟩ := ne_of_one_lt_toNat hscope
    have hbody : (s.taken dt rest).reserving.takeReset f = (s.taken dt rest).replied f .badValue [] := by
      rw [State.takeReset_of_mode hf, if_neg hring, if_neg hfull, State.answer_reserving (htakes.taken_line dt)]
    simp only [List.mem_cons, List.not_mem_nil, or_false] at hrow
    rcases hrow with rfl | rfl
    · rw [htakes.exec_resetRing dt hf hfull, hbody]
    · rw [htakes.exec_resetFull dt hf hring, hbody]
  · have hgone := State.resetReplyGone_of_absent hqueue hsending
    refine ⟨fun hring => ?_, fun hfull => ?_⟩
    · rw [exec_resetTakesPlace hgone, hring]
      rfl
    · rw [exec_resetTakesPlace hgone, hfull]
      show Host.Outcome.next ((s.advance dt).beginFullReset.completeFullReset straps) = _
      rw [State.completeFullReset_eq, State.beginFullReset_eq]
      rfl

/-! ## The reset state -/

/-- Settles O7: every queue is empty, every channel is UNCONFIGURED at its initial record, and no line is asserted. -/
theorem resetStateSatisfiesTheInvariants : Obligations.ResetStateSatisfiesTheInvariants := by
  have hchan (c : Chan) : State.reset.chan c = .powerOn ⟨0, 0⟩ := Quad.get_fill _ c
  have hctl (c : Chan) : State.reset.ctl c = .initial .unconfigured ⟨0, 0⟩ := congrArg Channel.ctl (hchan c)
  have hport : (Port.initial 0).Bounded := by constructor <;> simp [Port.initial]
  refine ⟨?_, fun c => ?_, fun c => ?_, ?_, ?_, ?_, fun _ => rfl⟩
  · constructor <;> first | exact hport | simp [State.reset, Port.initial]
  · rw [State.reckon_eq, hchan]
    constructor <;> simp [Channel.powerOn, Reckoning.initial]
  · rw [State.gate_eq, hchan]
    constructor <;> simp [Channel.powerOn, Gate.initial]
  · refine ⟨fun c => ?_, fun _ c => ?_, fun hfilled => ?_, fun hfilled => ?_, fun hline => ?_⟩
    · rw [hctl]
      constructor <;> simp [Controller.initial, ChanState.holdsDescriptor]
    · rw [hctl]
      exact ⟨.inl rfl, rfl, rfl⟩
    · cases hfilled
    · cases hfilled
    · cases hline
  · exact ⟨fun htrip => (by cases htrip), fun _ => rfl⟩
  · exact ⟨fun e he => (by cases he), fun _ => rfl⟩

end Sys2Proof.Machine
end


section
/-! The caps (R54 to R61): the terms of each direction as the statements write them, and the least of them. -/

namespace Sys2Proof.Machine

/-! ## The least of a list -/

/-- The fold answers an entry of the list or its start, and nothing smaller is there. -/
theorem foldl_min_spec (l : List Nat) (a : Nat) : l.foldl min a ∈ a :: l ∧ ∀ x ∈ a :: l, l.foldl min a ≤ x := by
  induction l generalizing a with
  | nil => simp
  | cons b l ih =>
    obtain ⟨hmem, hle⟩ := ih (min a b)
    simp only [List.foldl_cons, List.mem_cons, forall_eq_or_imp] at hmem hle ⊢
    obtain ⟨hmin, hrest⟩ := hle
    refine ⟨?_, hmin.trans (min_le_left a b), hmin.trans (min_le_right a b), hrest⟩
    rcases hmem with heq | hin
    · rcases min_choice a b with h | h
      · exact .inl (heq.trans h)
      · exact .inr (.inl (heq.trans h))
    · exact .inr (.inr hin)

theorem leastOf_spec (l : List Nat) : leastOf l ∈ 32767 :: l ∧ ∀ x ∈ 32767 :: l, leastOf l ≤ x :=
  foldl_min_spec l 32767

/-! ## The zone of a depth (R6) -/

/-- In an ascending table that begins at or above the depth, the search answers the entry the depth lies in. -/
theorem zoneAt_spec {zs : List Zone} {d : Nat} (hup : zs.Pairwise fun z z' => z.top < z'.top) {z₀ : Zone}
    (hhead : zs.head? = some z₀) (hd : z₀.top ≤ d) :
    ∃ z, zoneAt zs d = some z ∧ z ∈ zs ∧ z.top ≤ d ∧ ∀ z' ∈ zs, z.top < z'.top → d < z'.top := by
  induction zs generalizing z₀ with
  | nil => simp at hhead
  | cons z rest ih =>
    obtain rfl : z = z₀ := by simpa using hhead
    cases rest with
    | nil => exact ⟨z, rfl, by simp, hd, by simp⟩
    | cons z' rest =>
      obtain ⟨habove, htail⟩ := List.pairwise_cons.1 hup
      by_cases hnext : d < z'.top
      · refine ⟨z, by simp [zoneAt, hnext], by simp, hd, fun y hy hlt => ?_⟩
        have hfirst : ∀ y ∈ rest, z'.top < y.top := (List.pairwise_cons.1 htail).1
        simp only [List.mem_cons] at hy
        rcases hy with rfl | rfl | hy
        · exact absurd hlt (lt_irrefl _)
        · exact hnext
        · exact hnext.trans (hfirst y hy)
      · obtain ⟨w, hw, hmem, hwd, hdeeper⟩ := ih htail rfl (not_lt.1 hnext)
        refine ⟨w, by simpa [zoneAt, hnext] using hw, List.mem_cons_of_mem _ hmem, hwd, fun y hy hlt => ?_⟩
        rcases List.mem_cons.1 hy with rfl | hy
        · exact absurd (habove w hmem) hlt.not_gt
        · exact hdeeper y hy hlt

/-- An ascending table holds one entry for each top. -/
theorem eq_of_top_eq {zs : List Zone} (hup : zs.Pairwise fun z z' => z.top < z'.top) {z z' : Zone} (hz : z ∈ zs)
    (hz' : z' ∈ zs) (htop : z.top = z'.top) : z = z' := by
  have hnodup : (zs.map Zone.top).Nodup := List.pairwise_map.2 (hup.imp ne_of_lt)
  exact List.inj_on_of_nodup_map hnodup hz hz' htop

/-- The zone of the channel's depth is the one the search answers (R6). -/
theorem State.ZonesOrdered.liesIn {s : State} (h : s.ZonesOrdered) (c : Chan) :
    ∃ z, zoneAt s.active.entries (s.depthMm c) = some z ∧ ∀ z', s.LiesIn c z' ↔ z' = z := by
  obtain ⟨z₀, hhead, htop⟩ : ∃ z₀, s.active.entries.head? = some z₀ ∧ z₀.top = 0 := by
    simpa using h.firstAtTop
  obtain ⟨z, hz, hmem, hle, hnext⟩ := zoneAt_spec h.ascending hhead (htop ▸ Nat.zero_le (s.depthMm c))
  refine ⟨z, hz, fun z' => ⟨fun hlies => ?_, ?_⟩⟩
  · refine eq_of_top_eq h.ascending hlies.entry hmem (le_antisymm ?_ ?_)
    · exact not_lt.1 fun hlt => hlies.top.not_gt (hnext z' hlies.entry hlt)
    · exact not_lt.1 fun hlt => hle.not_gt (hlies.next z hmem hlt)
  · rintro rfl
    exact ⟨hmem, hle, hnext⟩

/-! ## The terms of a cap -/

theorem curve_eq (l aS distance : Nat) : curve l aS distance = Nat.sqrt (l ^ 2 + 2 * aS * distance) := by
  rw [curve, isqrt_eq_sqrt, sq]

/-- The bound of 32,767, the drive limit, the zone's limit and the quality term (R54, R55, R60). -/
theorem State.ZonesOrdered.commonTerm_iff {s : State} (h : s.ZonesOrdered) (c : Chan) (x : Nat) :
    s.CommonTerm c x ↔ x ∈ 32767 :: s.bothTerms c := by
  obtain ⟨z, hzone, hlies⟩ := h.liesIn c
  have hz : s.LiesIn c z := (hlies z).2 rfl
  have hterm : s.zoneTerm c = if z.limit (laneOf c) = 0 then (s.hoist c).crawl else z.limit (laneOf c) := by
    simp [State.zoneTerm, hzone]
  simp only [State.bothTerms, State.qualityTerm, List.mem_cons, hterm]
  constructor
  · rintro (_ | _ | ⟨z', hz', hopen⟩ | ⟨z', hz', hclosed⟩ | hq | hq | hq)
    · exact .inl rfl
    · exact .inr (.inl rfl)
    · obtain rfl := (hlies z').1 hz'
      simp [hopen]
    · obtain rfl := (hlies z').1 hz'
      simp [hclosed]
    all_goals simp [hq]
  · rintro (rfl | rfl | rfl | hquality)
    · exact .most
    · exact .drive
    · split
      · exact .closedZone z hz ‹_›
      · exact .openZone z hz ‹_›
    · cases hq : (s.reckon c).quality <;> simp only [hq, List.mem_singleton, List.not_mem_nil] at hquality <;>
        subst hquality
      · exact .unreferenced hq
      · exact .doubtful hq
      · exact .lost hq

/-- The distance past a stop counts as none (R57). -/
theorem State.stopBelow_eq (s : State) (c : Chan) :
    s.stopBelow c = Nat.sqrt (2 * (s.hoist c).aS * ((s.lane c).bottom - (s.reckon c).depth / 1000)) := by
  simp only [State.stopBelow, curve_eq, State.depthMm, Reckoning.depthMm]
  split_ifs with habove
  · simp
  · simp [Nat.sub_eq_zero_of_le (not_lt.1 habove)]

theorem State.stopAbove_eq (s : State) (c : Chan) :
    s.stopAbove c = Nat.sqrt (2 * (s.hoist c).aS * ((s.reckon c).depth / 1000 - (s.lane c).top)) := by
  simp only [State.stopAbove, curve_eq, State.depthMm, Reckoning.depthMm]
  split_ifs with hbelow
  · simp
  · simp [Nat.sub_eq_zero_of_le (not_lt.1 hbelow)]

/-- The separation term (R58, R59), seen from the upper channel and from the lower one. -/
theorem State.separation_eq (s : State) (c : Chan) : s.separation c = s.separationOf c := by
  have hspeed (v : Int) : (v.tdiv 1000).natAbs = v.natAbs / 1000 := by rw [Int.natAbs_tdiv]; rfl
  simp only [State.separation, State.separationOf, State.available, State.gap, State.partnerStop, State.partnerCloses,
    State.depthMm, Reckoning.depthMm, curve_eq, hspeed]
  by_cases hupper : isUpper c = true
  · simp [hupper]
  · simp [hupper]

/-- The curves toward the deeper zones (R56). -/
theorem State.mem_zonesBelow (s : State) (c : Chan) (x : Nat) :
    x ∈ s.zonesBelow c ↔ ∃ z ∈ s.active.entries, (s.reckon c).depth / 1000 < z.top
      ∧ Nat.sqrt (z.limit (laneOf c) ^ 2 + 2 * (s.hoist c).aS * (z.top - (s.reckon c).depth / 1000)) = x := by
  simp only [State.zonesBelow, List.mem_map, List.mem_filter, decide_eq_true_eq, curve_eq, and_assoc]
  rfl

/-- Neighbours in a list, by place. -/
theorem mem_zip_tail {α : Type} (l : List α) (x y : α) :
    (x, y) ∈ l.zip l.tail ↔ ∃ k, l[k]? = some x ∧ l[k + 1]? = some y := by
  simp [List.mem_iff_getElem?, List.getElem?_zip_eq_some, List.getElem?_tail]

/-- The curves toward the boundaries above (R56). -/
theorem State.mem_zonesAbove (s : State) (c : Chan) (x : Nat) :
    x ∈ s.zonesAbove c ↔ ∃ k z z', s.active.entries[k]? = some z ∧ s.active.entries[k + 1]? = some z'
      ∧ z'.top < (s.reckon c).depth / 1000
      ∧ Nat.sqrt (z.limit (laneOf c) ^ 2 + 2 * (s.hoist c).aS * ((s.reckon c).depth / 1000 - z'.top)) = x := by
  simp only [State.zonesAbove, List.mem_map, List.mem_filter, decide_eq_true_eq, Prod.exists, mem_zip_tail, curve_eq]
  constructor
  · rintro ⟨z, z', ⟨⟨k, hk, hk'⟩, htop⟩, hx⟩
    exact ⟨k, z, z', hk, hk', htop, hx⟩
  · rintro ⟨k, z, z', hk, hk', htop, hx⟩
    exact ⟨z, z', ⟨⟨k, hk, hk'⟩, htop⟩, hx⟩

theorem State.ZonesOrdered.downTerm_iff {s : State} (h : s.ZonesOrdered) (c : Chan) (x : Nat) :
    s.DownTerm c x ↔ x ∈ 32767 :: s.downTerms c := by
  have hcommon := h.commonTerm_iff c x
  have hbelow := s.mem_zonesBelow c x
  simp only [List.mem_cons] at hcommon
  simp only [State.downTerms, List.mem_cons, List.mem_append, List.not_mem_nil, or_false, s.stopBelow_eq c,
    s.separation_eq c]
  constructor
  · rintro (⟨_, hx⟩ | ⟨z, hz, hdeep⟩ | _ | hupper)
    · exact (hcommon.1 hx).imp_right fun h => .inl (.inl (.inl h))
    · exact .inr (.inl (.inl (.inr (hbelow.2 ⟨z, hz, hdeep, rfl⟩))))
    · exact .inr (.inl (.inr rfl))
    · simp [hupper]
  · rintro (hx | ((hx | hx) | rfl) | hx)
    · exact .common x (hcommon.2 (.inl hx))
    · exact .common x (hcommon.2 (.inr hx))
    · obtain ⟨z, hz, hdeep, rfl⟩ := hbelow.1 hx
      exact .ahead z hz hdeep
    · exact .stop
    · split at hx
      · obtain rfl := List.mem_singleton.1 hx
        exact .separation ‹_›
      · cases hx

theorem State.ZonesOrdered.upTerm_iff {s : State} (h : s.ZonesOrdered) (c : Chan) (x : Nat) :
    s.UpTerm c x ↔ x ∈ 32767 :: s.upTerms c := by
  have hcommon := h.commonTerm_iff c x
  have habove := s.mem_zonesAbove c x
  simp only [List.mem_cons] at hcommon
  simp only [State.upTerms, List.mem_cons, List.mem_append, List.not_mem_nil, or_false, s.stopAbove_eq c,
    s.separation_eq c]
  constructor
  · rintro (⟨_, hx⟩ | ⟨k, z, z', hz, hz', hhigh⟩ | _ | hlower)
    · exact (hcommon.1 hx).imp_right fun h => .inl (.inl (.inl h))
    · exact .inr (.inl (.inl (.inr (habove.2 ⟨k, z, z', hz, hz', hhigh, rfl⟩))))
    · exact .inr (.inl (.inr rfl))
    · simp [hlower]
  · rintro (hx | ((hx | hx) | rfl) | hx)
    · exact .common x (hcommon.2 (.inl hx))
    · exact .common x (hcommon.2 (.inr hx))
    · obtain ⟨k, z, z', hz, hz', hhigh, rfl⟩ := habove.1 hx
      exact .ahead k z z' hz hz' hhigh
    · exact .stop
    · split at hx
      · cases hx
      · obtain rfl := List.mem_singleton.1 hx
        exact .separation (Bool.eq_false_iff.2 ‹_›)

/-- Settles O20: the terms of a direction are the list the cap is the least of. -/
theorem capsAreTheLeastOfTheirTerms : Obligations.CapsAreTheLeastOfTheirTerms := by
  refine fun s c => ⟨fun hforced => ?_, fun hfree hordered => ?_⟩
  · rw [State.newDownCap, State.newUpCap, if_pos hforced, if_pos hforced]
    exact ⟨rfl, rfl⟩
  · have hrun : ¬ (s.ctl c).state.forced = true := by simp [hfree]
    rw [State.newDownCap, State.newUpCap, if_neg hrun, if_neg hrun]
    simp only [hordered.downTerm_iff c, hordered.upTerm_iff c]
    exact ⟨leastOf_spec _, leastOf_spec _⟩

end Sys2Proof.Machine
end


section
/-! What the gate reads of a controller's record (R50): a change of the record that keeps the channel's state moves
neither the caps nor Δt. -/

namespace Sys2Proof.Machine

@[simp] theorem State.ctl_withCtl_same (s : State) (c : Chan) (k : Controller) : (s.withCtl c k).ctl c = k :=
  State.ctl_withChan_same s c _

@[simp] theorem State.reckon_withCtl (s : State) (c d : Chan) (k : Controller) :
    (s.withCtl c k).reckon d = s.reckon d :=
  State.reckon_modCtl s c d fun _ => k

@[simp] theorem State.notes_withCtl (s : State) (c d : Chan) (k : Controller) :
    ((s.withCtl c k).chan d).notes = (s.chan d).notes :=
  State.notes_modCtl s c d fun _ => k

@[simp] theorem State.withCtl_hoist (s : State) (c d : Chan) (k : Controller) : (s.withCtl c k).hoist d = s.hoist d :=
  rfl

theorem State.chan_withCtl_same (s : State) (c : Chan) (k : Controller) :
    (s.withCtl c k).chan c = { s.chan c with ctl := k } :=
  State.chan_withChan_same s c _

/-- A running timer is due from its tick on (log 4). -/
theorem State.due_of_reached {s : State} {timer : Option Nat} {e : Nat} (htimer : timer = some e)
    (hreached : e ≤ s.ms) : s.due timer = true := by
  rw [htimer]
  exact decide_eq_true hreached

theorem State.due_of_early {s : State} {timer : Option Nat} {e : Nat} (htimer : timer = some e)
    (hearly : ¬ e ≤ s.ms) : s.due timer = false := by
  rw [htimer]
  exact decide_eq_false hearly

/-- Outside a full reset the channels take events (R22, R77, R152). -/
theorem State.awake_of_ne {s : State} (hline : s.resetLine ≠ .fullReset) : s.awake = true := by
  simpa [State.awake] using hline

section
variable (s : State) (c : Chan) (k : Controller)

theorem State.downTerms_withCtl : (s.withCtl c k).downTerms c = s.downTerms c := by
  simp only [State.downTerms, State.bothTerms, State.zoneTerm, State.qualityTerm, State.zonesBelow, State.stopBelow,
    State.separation, State.available, State.gap, State.partnerStop, State.partnerCloses, State.depthMm,
    State.reckon_withCtl, State.gate_withCtl, State.withCtl_hoist]
  rfl

theorem State.upTerms_withCtl : (s.withCtl c k).upTerms c = s.upTerms c := by
  simp only [State.upTerms, State.bothTerms, State.zoneTerm, State.qualityTerm, State.zonesAbove, State.stopAbove,
    State.separation, State.available, State.gap, State.partnerStop, State.partnerCloses, State.depthMm,
    State.reckon_withCtl, State.gate_withCtl, State.withCtl_hoist]
  rfl

variable {s c k} (hforced : k.state.forced = (s.ctl c).state.forced)
include hforced

theorem State.newDownCap_withCtl : (s.withCtl c k).newDownCap c = s.newDownCap c := by
  simp only [State.newDownCap, State.ctl_withCtl_same, hforced, State.downTerms_withCtl]

theorem State.newUpCap_withCtl : (s.withCtl c k).newUpCap c = s.newUpCap c := by
  simp only [State.newUpCap, State.ctl_withCtl_same, hforced, State.upTerms_withCtl]

end

theorem State.delta_withCtl (s : State) (c : Chan) (k : Controller) : (s.withCtl c k).delta c = s.delta c := by
  simp only [State.delta, State.gate_withCtl]
  rfl

/-! ## Δt -/

/-- Settles O18: the bounds of Δt, and the time every evaluation keeps. -/
theorem deltaCountsMillisecondsBetweenEvaluations : Obligations.DeltaCountsMillisecondsBetweenEvaluations := by
  refine fun s c => ⟨fun hnone => ?_, fun p hsome => ?_, fun src => ?_⟩
  · simp only [State.delta, hnone]
  · have hdelta : s.delta c = max 1 (min 250 (s.now / 1000 - p / 1000)) := by
      simp only [State.delta, hsome]
      rfl
    rw [hdelta]
    refine ⟨fun hless => ?_, fun hlow hhigh => ?_, fun hmore => ?_⟩ <;> omega
  · rw [State.gate_evaluate_same]

/-! ## An evaluation outside the forced states -/

/-- What an evaluation of the demand `d` finds outside the forced states, the trip line negated (R62 to R69). -/
def State.outcome (s : State) (c : Chan) (d : Int) : Evaluation :=
  let down := s.newDownCap c
  let up := s.newUpCap c
  let t := heldWithin down up d
  let r := ramp (s.gate c).out t ((s.hoist c).aR * s.delta c) ((s.hoist c).aS * s.delta c)
  let n := heldWithin down up r
  let limited := decide (t ≠ d) || decide (n ≠ r)
  { downCap := down, upCap := up, demand := d, target := t, ramped := r, output := n, limited := limited,
    mark := gateMark false limited (decide (r ≠ t)), brake := (s.ctl c).state.brakeCommand }

theorem State.evaluation_eq_outcome {s : State} {c : Chan} (hfree : (s.ctl c).state.forced = false)
    (htrip : s.tripLine = false) (src : Option Frame) : s.evaluation c src = s.outcome c (s.demand c src) := by
  simp only [State.evaluation, State.outcome, hfree, htrip, capTo_eq_heldWithin, Bool.or_self, Bool.false_eq_true,
    if_false]

theorem State.outcome_limited (s : State) (c : Chan) (d : Int) :
    (s.outcome c d).limited = true ↔
      (s.outcome c d).target ≠ d ∨ (s.outcome c d).output ≠ (s.outcome c d).ramped := by
  simp only [State.outcome, Bool.or_eq_true, decide_eq_true_eq]

/-- The gate mark's code (R67). -/
theorem State.outcome_mark (s : State) (c : Chan) (d : Int) :
    (s.outcome c d).mark.code =
      markOf d (s.outcome c d).target (s.outcome c d).ramped (s.outcome c d).output := by
  simp only [State.outcome, gateMark, markOf, Bool.or_eq_true, decide_eq_true_eq, Bool.false_eq_true, if_false]
  split_ifs <;> rfl

/-- The emission timer and the watch are nothing to the gate. -/
theorem State.outcome_withCtl {s : State} {c : Chan} {k : Controller}
    (hforced : k.state.forced = (s.ctl c).state.forced)
    (hbrake : k.state.brakeCommand = (s.ctl c).state.brakeCommand) (d : Int) :
    (s.withCtl c k).outcome c d = s.outcome c d := by
  simp only [State.outcome, State.newDownCap_withCtl hforced, State.newUpCap_withCtl hforced, State.gate_withCtl,
    State.withCtl_hoist, State.delta_withCtl, State.ctl_withCtl_same, hbrake]

/-! ## The demand of an emission -/

theorem State.approachDemand_eq {s : State} {c : Chan} {i : Fin 256} (hcurrent : (s.ctl c).current = some i) :
    s.approachDemand c = s.approachOf c i := by
  simp only [State.approachDemand, hcurrent, State.approachOf, State.inWindow, decide_eq_true_eq, isqrt_eq_sqrt]
  rfl

theorem State.injectedDemand_eq (s : State) (c : Chan) : s.injectedDemand c = s.convertedDemand c := by
  cases hrecord : (s.ctl c).record with
  | none => simp only [State.injectedDemand, State.convertedDemand, hrecord]
  | some r =>
    simp only [State.injectedDemand, State.convertedDemand, State.slack, hrecord, decide_eq_true_eq]
    rfl

/-- The demand by channel state (R51) and the freeze (R53), where no dispatch frame causes the evaluation. -/
theorem State.demand_none (s : State) (c : Chan) : s.demand c none = s.ownDemand c := by
  simp only [State.demand, State.ownDemand, State.stateDemand]
  split
  · rfl
  · cases (s.ctl c).state
    case list =>
      cases hcurrent : (s.ctl c).current with
      | none => simp only [State.approachDemand, hcurrent]
      | some i => exact State.approachDemand_eq hcurrent
    case injected => exact s.injectedDemand_eq c
    all_goals rfl

theorem State.ownDemand_withCtl {s : State} {c : Chan} {k : Controller} (hstate : k.state = (s.ctl c).state)
    (hcurrent : k.current = (s.ctl c).current) (hphase : k.listPhase = (s.ctl c).listPhase)
    (hrecord : k.record = (s.ctl c).record) (hpower : k.power = (s.ctl c).power) :
    (s.withCtl c k).ownDemand c = s.ownDemand c := by
  simp only [State.ownDemand, State.approachOf, State.convertedDemand, State.ctl_withCtl_same, State.reckon_withCtl,
    State.withCtl_hoist, hstate, hcurrent, hphase, hrecord, hpower]
  rfl

end Sys2Proof.Machine
end


section
/-! The list's part of an event (R107 to R114): it changes its own channel alone, and nothing of port D; arrival, the
dwell and the completion of a descriptor. -/

namespace Sys2Proof.Machine

/-! ## What the list's part touches -/

/-- The state with another port D. -/
def State.withPortD (s : State) (q : Port) : State := { s with portD := q }

/-- `op` changes the controller's record and the notices of channel `c` alone, and does not read port D. -/
structure LocalTo (c : Chan) (op : State → State) : Prop where
  only : ∀ s, ∃ k n, op s = s.withChan c { s.chan c with ctl := k, notes := n }
  port : ∀ s q, op (s.withPortD q) = (op s).withPortD q

theorem LocalTo.eq {c : Chan} {op : State → State} (h : LocalTo c op) (s : State) :
    op s = s.withChan c ((op s).chan c) := by
  obtain ⟨k, n, hx⟩ := h.only s
  rw [hx, State.chan_withChan_same]

theorem LocalTo.reckon_same {c : Chan} {op : State → State} (h : LocalTo c op) (s : State) :
    (op s).reckon c = s.reckon c := by
  obtain ⟨k, n, hx⟩ := h.only s
  rw [hx, State.reckon_withChan_same]
  rfl

theorem LocalTo.comp {c : Chan} {f g : State → State} (hg : LocalTo c g) (hf : LocalTo c f) :
    LocalTo c fun s => g (f s) := by
  refine ⟨fun s => ?_, fun s q => by simp only [hf.port, hg.port]⟩
  obtain ⟨k, n, hx⟩ := hf.only s
  obtain ⟨k', n', hy⟩ := hg.only (f s)
  exact ⟨k', n', by rw [hy, hx, State.withChan_withChan, State.chan_withChan_same]⟩

theorem LocalTo.refl (c : Chan) : LocalTo c fun s => s :=
  ⟨fun s => ⟨(s.chan c).ctl, (s.chan c).notes, (State.withChan_chan s c).symm⟩, fun _ _ => rfl⟩

/-- A choice that does not look at port D. -/
theorem LocalTo.ite {c : Chan} {f g : State → State} {p : State → Prop} [DecidablePred p] (hf : LocalTo c f)
    (hg : LocalTo c g) (hp : ∀ s q, p (s.withPortD q) ↔ p s) : LocalTo c fun s => if p s then f s else g s := by
  refine ⟨fun s => ?_, fun s q => ?_⟩
  · by_cases h : p s
    · simp only [if_pos h, hf.only s]
    · simp only [if_neg h, hg.only s]
  · by_cases h : p s
    · simp only [if_pos h, if_pos ((hp s q).2 h), hf.port]
    · simp only [if_neg h, if_neg (mt (hp s q).1 h), hg.port]

theorem localTo_modCtl (c : Chan) (g : Controller → Controller) : LocalTo c fun s => s.modCtl c g :=
  ⟨fun _ => ⟨_, _, State.modCtl_eq ..⟩, fun _ _ => rfl⟩

theorem localTo_raise (c : Chan) (k : ChanKind) : LocalTo c fun s => s.raise c k :=
  ⟨fun _ => ⟨_, _, State.raise_eq ..⟩, fun _ _ => rfl⟩

theorem localTo_becomeCurrent (c : Chan) (i : Fin 256) : LocalTo c fun s => s.becomeCurrent c i := by
  refine ⟨fun s => ?_, fun s q => ?_⟩
  · cases hbar : s.barred c (s.desc i) with
    | none => exact ⟨_, _, State.becomeCurrent_of_free hbar⟩
    | some cause => exact ⟨_, _, State.becomeCurrent_of_barred hbar⟩
  · have hsame : (s.withPortD q).barred c ((s.withPortD q).desc i) = s.barred c (s.desc i) := rfl
    cases hbar : s.barred c (s.desc i) with
    | none =>
      rw [State.becomeCurrent_of_free hbar, State.becomeCurrent_of_free (hsame.trans hbar)]
      rfl
    | some cause =>
      rw [State.becomeCurrent_of_barred hbar, State.becomeCurrent_of_barred (hsame.trans hbar)]
      rfl

theorem localTo_endList (c : Chan) : LocalTo c fun s => s.endList c :=
  ⟨fun _ => ⟨_, _, State.endList_eq ..⟩, fun _ _ => by simp only [State.endList_eq]; rfl⟩

/-- The successor's part of a completion. -/
theorem localTo_succeed (c : Chan) (i : Fin 256) :
    LocalTo c fun s => match s.successor i with
      | some j => s.becomeCurrent c j
      | none => s.endList c := by
  refine ⟨fun s => ?_, fun s q => ?_⟩
  · cases s.successor i with
    | none => exact (localTo_endList c).only s
    | some j => exact (localTo_becomeCurrent c j).only s
  · have hsame : (s.withPortD q).successor i = s.successor i := rfl
    simp only [hsame]
    cases s.successor i with
    | none => exact (localTo_endList c).port s q
    | some j => exact (localTo_becomeCurrent c j).port s q

theorem localTo_complete (c : Chan) (i : Fin 256) : LocalTo c fun s => s.complete c i :=
  (localTo_succeed c i).comp
    ((localTo_raise c .moveDone).ite (LocalTo.refl c) (p := fun s => (s.desc i).notify = true) fun _ _ => Iff.rfl)

/-! ## Arrival (R112) -/

theorem State.rest_iff (s : State) (c : Chan) :
    s.rest c = true ↔ (s.gate c).out = 0 ∧ ∃ f, (s.ctl c).record = some f
      ∧ f.time.later (s.ctl c).zeroMoment = true ∧ f.actual.natAbs ≤ (s.hoist c).standstill := by
  rw [State.rest]
  cases (s.ctl c).record with
  | none => simp
  | some f => simp [and_assoc]

/-- The conditions of an arrival with descriptor `i` (R112). -/
structure State.Arrives (s : State) (c : Chan) (i : Fin 256) : Prop where
  inList : (s.ctl c).state = .list
  current : (s.ctl c).current = some i
  approaching : (s.ctl c).listPhase = .approach
  evaluated : (s.ctl c).evaluated = true
  inWindow : ((s.descs[i].target : Int) - (((s.reckon c).depth / 1000 : Nat) : Int)).natAbs ≤ (s.hoist c).arrival
  atRest : s.rest c = true

theorem State.Arrives.tryArrive_eq {s : State} {c : Chan} {i : Fin 256} (h : s.Arrives c i) :
    s.tryArrive c = s.arrive c i := by
  obtain ⟨hlist, hcurrent, hphase, hmark, hwindow, hrest⟩ := h
  simp only [State.tryArrive, hcurrent]
  exact if_pos ⟨hlist, hphase, hmark, decide_eq_true hwindow, hrest⟩

theorem State.tryArrive_of_not {s : State} {c : Chan} (h : ∀ i, ¬ s.Arrives c i) : s.tryArrive c = s := by
  cases hcurrent : (s.ctl c).current with
  | none => simp only [State.tryArrive, hcurrent]
  | some i =>
    simp only [State.tryArrive, hcurrent]
    refine if_neg fun ⟨hlist, hphase, hmark, hwindow, hrest⟩ => h i ⟨hlist, hcurrent, hphase, hmark, ?_, hrest⟩
    exact of_decide_eq_true hwindow

/-- An entry to STOPPING with destination HELD reads no more of the record than what is left with list and injection
given up (R89). -/
theorem State.stoppedCtl_withCtl (s : State) (c : Chan) (k : Controller) :
    (s.withCtl c k).stoppedCtl c =
      (let x : Channel := { s.chan c with ctl := k.bare }
      { k.bare with
        state := if s.restFor c x then .held else .stopping .held, demand := none, emission := s.emissionFor c x,
        watch := if s.restFor c x then none else s.watchFor c x (.stopping .held) }) := by
  simp only [State.stoppedCtl, State.rest_eq, State.emissionOn_eq, State.watchIn_eq, State.chan_withCtl_same,
    State.ctl_withCtl_same]
  rfl

/-- The record at an arrival: phase DWELL, the carried dwell used (R112). -/
def Controller.arrived (k : Controller) : Controller := { k with listPhase := .dwell, carried := none }

theorem State.barredOn_arrived (s : State) (c : Chan) (j : Fin 256) (cause : ListCause) :
    (s.withCtl c (s.ctl c).arrived).barredOn c j cause = s.barredOn c j cause := by
  have hself : s.withCtl c (s.ctl c) = s := State.withChan_chan s c
  have hstopped : (s.withCtl c (s.ctl c).arrived).stoppedCtl c = s.stoppedCtl c := by
    conv_rhs => rw [← hself]
    simp only [State.stoppedCtl_withCtl]
    rfl
  simp only [State.barredOn, hstopped, State.chan_withCtl_same]
  simp only [State.withCtl, State.withChan_withChan]

/-- Nothing of the phase or of the carried dwell is left by a completion (R108, R109, R114). -/
theorem State.complete_arrived (s : State) (c : Chan) (i : Fin 256) :
    (s.withCtl c (s.ctl c).arrived).complete c i = s.complete c i := by
  have hsucceed (s : State) :
      (match (s.withCtl c (s.ctl c).arrived).successor i with
        | some j => (s.withCtl c (s.ctl c).arrived).becomeCurrent c j
        | none => (s.withCtl c (s.ctl c).arrived).endList c)
      = match s.successor i with
        | some j => s.becomeCurrent c j
        | none => s.endList c := by
    have hsame : (s.withCtl c (s.ctl c).arrived).successor i = s.successor i := rfl
    rw [hsame]
    cases s.successor i with
    | none =>
      simp only [State.endList_eq, State.withCtlNote, State.withCtl, State.chan_withChan_same, State.withChan_withChan,
        State.ctl_withChan_same]
      rfl
    | some j =>
      have hbarred : (s.withCtl c (s.ctl c).arrived).barred c ((s.withCtl c (s.ctl c).arrived).desc j)
          = s.barred c (s.desc j) := rfl
      cases hbar : s.barred c (s.desc j) with
      | none =>
        simp only [State.becomeCurrent_of_free hbar, State.becomeCurrent_of_free (hbarred.trans hbar)]
        simp only [State.withCtl, State.chan_withChan_same, State.withChan_withChan, State.ctl_withChan_same]
        rfl
      | some cause =>
        simp only [State.becomeCurrent_of_barred hbar, State.becomeCurrent_of_barred (hbarred.trans hbar),
          State.barredOn_arrived]
  have hraise : (s.withCtl c (s.ctl c).arrived).raise c .moveDone =
      (s.raise c .moveDone).withCtl c ((s.raise c .moveDone).ctl c).arrived := by
    simp only [State.raise_eq, State.withCtl, State.chan_withChan_same, State.withChan_withChan,
      State.ctl_withChan_same]
    rfl
  have hdesc : (s.withCtl c (s.ctl c).arrived).desc i = s.desc i := rfl
  simp only [State.complete, hdesc]
  by_cases hnotify : (s.desc i).notify = true
  · simp only [if_pos hnotify, hraise]
    exact hsucceed (s.raise c .moveDone)
  · simp only [if_neg hnotify]
    exact hsucceed s

/-- The dwell of an arrival: the carried one, or the descriptor's own (R112, R131). -/
def State.arrivalDwell (s : State) (c : Chan) (i : Fin 256) : Nat := (s.ctl c).carried.getD (s.descs[i]).dwell

theorem State.arrive_of_dwell {s : State} {c : Chan} {i : Fin 256} (hdwell : s.arrivalDwell c i ≠ 0) :
    s.arrive c i = s.withCtl c { s.ctl c with
      listPhase := .dwell, carried := none, dwell := some (s.ms + s.arrivalDwell c i) } := by
  rw [State.arrive]
  simp only [State.modCtl_eq, State.chan_withChan_same, State.withChan_withChan]
  exact if_neg hdwell

theorem State.arrive_of_zero {s : State} {c : Chan} {i : Fin 256} (hdwell : s.arrivalDwell c i = 0) :
    s.arrive c i = s.complete c i := by
  rw [← s.complete_arrived c i]
  exact if_pos hdwell

theorem localTo_arrive (c : Chan) (i : Fin 256) : LocalTo c fun s => s.arrive c i := by
  have hdwell : LocalTo c fun s => s.withCtl c { s.ctl c with
      listPhase := .dwell, carried := none, dwell := some (s.ms + s.arrivalDwell c i) } :=
    ⟨fun _ => ⟨_, _, rfl⟩, fun _ _ => rfl⟩
  have hboth := (localTo_complete c i).ite hdwell (p := fun s => s.arrivalDwell c i = 0) fun _ _ => Iff.rfl
  refine (funext fun s => ?_ : (fun s : State => s.arrive c i) = _) ▸ hboth
  by_cases h : s.arrivalDwell c i = 0
  · rw [if_pos h, State.arrive_of_zero h]
  · rw [if_neg h, State.arrive_of_dwell h]

/-- What the conditions of an arrival read is not port D. -/
theorem State.arrives_withPortD (s : State) (q : Port) (c : Chan) (i : Fin 256) :
    (s.withPortD q).Arrives c i ↔ s.Arrives c i :=
  ⟨fun ⟨h1, h2, h3, h4, h5, h6⟩ => ⟨h1, h2, h3, h4, h5, h6⟩, fun ⟨h1, h2, h3, h4, h5, h6⟩ => ⟨h1, h2, h3, h4, h5, h6⟩⟩

theorem localTo_tryArrive (c : Chan) : LocalTo c fun s => s.tryArrive c := by
  refine ⟨fun s => ?_, fun s q => ?_⟩
  · by_cases h : ∃ i, s.Arrives c i
    · obtain ⟨i, hi⟩ := h
      simp only [hi.tryArrive_eq, (localTo_arrive c i).only s]
    · simp only [State.tryArrive_of_not (not_exists.1 h), (LocalTo.refl c).only s]
  · by_cases h : ∃ i, s.Arrives c i
    · obtain ⟨i, hi⟩ := h
      simp only [hi.tryArrive_eq, ((s.arrives_withPortD q c i).2 hi).tryArrive_eq, (localTo_arrive c i).port s q]
    · have hno := not_exists.1 h
      have hno' (i) : ¬ (s.withPortD q).Arrives c i := mt (s.arrives_withPortD q c i).1 (hno i)
      simp only [State.tryArrive_of_not hno, State.tryArrive_of_not hno']

theorem localTo_listAfter (c : Chan) : LocalTo c fun s => s.listAfter c :=
  ((localTo_tryArrive c).comp (localTo_modCtl c fun k => { k with evaluated := true })).ite (LocalTo.refl c)
    (p := fun s => (s.ctl c).state = .list) fun _ _ => Iff.rfl

/-! ## The list's part and the DRIVE frame -/

/-- Port D after a DRIVE frame has been handed to it. -/
def State.driven (s : State) (c : Chan) (f : Frame) : Port :=
  if s.portOpen .d then { s.portD with tx := placeDrive s.portD.tx c f } else s.portD

theorem State.handDrive_eq (s : State) (c : Chan) (f : Frame) : s.handDrive c f = s.withPortD (s.driven c f) := by
  by_cases hopen : s.portOpen .d = true
  · rw [State.handDrive_of_open hopen, State.driven, if_pos hopen]
    rfl
  · rw [State.handDrive_of_closed hopen, State.driven, if_neg hopen]
    rfl

/-- The frame of an evaluation may be handed over before the list's part or after it (R50). -/
theorem LocalTo.handDrive {c : Chan} {op : State → State} (h : LocalTo c op) (s : State) (d : Chan) (f : Frame) :
    op (s.handDrive d f) = (op s).handDrive d f := by
  obtain ⟨k, n, hx⟩ := h.only s
  rw [State.handDrive_eq, h.port, State.handDrive_eq, hx]
  rfl

end Sys2Proof.Machine
end


section
/-! Evaluations in full (R49 to R71): an emission in a forced state, an emission in the others, and a dispatch
frame's. -/

namespace Sys2Proof.Machine

/-- An emission whose timer has reached its tick evaluates the channel with the timer restarted (R80). -/
theorem exec_emissionExpiry {s : State} {c : Chan} {e dt : Nat} (hline : s.resetLine ≠ .fullReset)
    (htimer : (s.ctl c).emission = some e) (hreached : e ≤ (s.now + dt) / 1000) :
    exec (.emissionExpiry dt c) s = .next (((s.advance dt).restartEmission c).evaluate c none) := by
  have hdue : (s.advance dt).due ((s.advance dt).ctl c).emission = true := State.due_of_reached htimer hreached
  have hawake : (s.advance dt).awake = true := State.awake_of_ne hline
  show execEmissionExpiry dt c s = _
  simp only [execEmissionExpiry, hdue, hawake, Bool.and_self, if_true]

theorem State.restartEmission_eq (s : State) (c : Chan) :
    s.restartEmission c = s.withCtl c { s.ctl c with emission := some (s.ms + (s.hoist c).emission) } := rfl

/-- Out of LIST no list takes part in an evaluation (R111). -/
theorem State.listAfter_of_ne {s : State} {c : Chan} (h : (s.ctl c).state ≠ .list) : s.listAfter c = s := if_neg h

theorem State.ctl_handDrive (s : State) (c d : Chan) (f : Frame) : (s.handDrive c f).ctl d = s.ctl d := by
  rw [State.handDrive_eq]; rfl

/-! ## In a forced state -/

/-- Within a forced state an evaluation finds output and caps 0, mark FORCED and brake SET (R61, R67, R69). -/
theorem State.evaluation_of_forced {s : State} {c : Chan} (hforced : (s.ctl c).state.forced = true)
    (src : Option Frame) :
    s.evaluation c src = ⟨0, 0, 0, 0, 0, 0, false, .forced, .set⟩ := by
  have hbrake : (s.ctl c).state.brakeCommand = .set := by
    cases hst : (s.ctl c).state <;> simp_all [ChanState.forced, ChanState.brakeCommand]
  simp [State.evaluation, State.newDownCap, State.newUpCap, hforced, hbrake, capTo, clampInt, gateMark]

/-- The frame of an emission is the part's own (R68). -/
theorem State.driveFrame_none (s : State) (c : Chan) (e : Evaluation) :
    s.driveFrame c none e = s.ownFrame c e.output e.brake.code e.mark.code := rfl

/-- The notices of forming the demand read the state and the feedback record alone (R52, R128). -/
theorem State.demandNotes_withCtl {s : State} {c : Chan} {k : Controller} (hstate : k.state = (s.ctl c).state)
    (hrecord : k.record = (s.ctl c).record) (src : Option Frame) :
    (s.withCtl c k).demandNotes c src = s.demandNotes c src := by
  simp only [State.demandNotes, State.slack, State.ctl_withCtl_same, State.notes_withCtl, State.withCtl_hoist, hstate,
    hrecord] <;> rfl

theorem State.evaluatedNotes_withCtl {s : State} {c : Chan} {k : Controller} (hstate : k.state = (s.ctl c).state)
    (hrecord : k.record = (s.ctl c).record) (hlimited : k.limited = (s.ctl c).limited) (src : Option Frame)
    (e : Evaluation) : (s.withCtl c k).evaluatedNotes c src e = s.evaluatedNotes c src e := by
  simp only [State.evaluatedNotes, State.ctl_withCtl_same, State.demandNotes_withCtl hstate hrecord, hstate, hlimited]

theorem State.evaluatedCtl_restarted (s : State) (c : Chan) (e : Evaluation) :
    (s.restartEmission c).evaluatedCtl c e =
      { s.evaluatedCtl c e with emission := some (s.ms + (s.hoist c).emission) } := by
  rw [State.restartEmission_eq, State.evaluatedCtl, State.ctl_withCtl_same, State.gate_withCtl]
  rfl

/-- An emission's evaluation, as a change of the channel that was evaluated, its frame, and the list's part. -/
theorem State.evaluate_restarted {s : State} {c : Chan} {e : Evaluation}
    (he : (s.restartEmission c).evaluation c none = e) :
    (s.restartEmission c).evaluate c none =
      ((s.withChan c { s.chan c with
          gate := ⟨e.output, some s.now, e.downCap, e.upCap⟩,
          ctl := { s.evaluatedCtl c e with emission := some (s.ms + (s.hoist c).emission) },
          notes := s.evaluatedNotes c none e }).handDrive c (s.ownFrame c e.output e.brake.code e.mark.code)).listAfter
        c := by
  have hframe : (s.restartEmission c).ownFrame = s.ownFrame := rfl
  have hnotes : (s.restartEmission c).evaluatedNotes c none e = s.evaluatedNotes c none e := by
    rw [State.restartEmission_eq]
    refine State.evaluatedNotes_withCtl ?_ ?_ ?_ none e <;> rfl
  rw [State.evaluate_eq, he, State.driveFrame_none, hframe, State.evaluatedCtl_restarted, hnotes,
    State.restartEmission_eq, State.chan_withCtl_same, State.withCtl, State.withChan_withChan]
  rfl

theorem ChanState.watched_of_forced {st : ChanState} (h : st.forced = true) : st.watched = false := by
  cases st <;> simp_all [ChanState.forced, ChanState.watched]

/-- Settles O21: in a forced state the evaluation changes the gate, the zero moment and the watch, and raises
nothing. -/
theorem forcedEmissionCommandsStandstill : Obligations.ForcedEmissionCommandsStandstill := by
  intro dt e s c hline htimer hreached hforced u
  have hfree {st : ChanState} (hst : st.forced = false) : (u.ctl c).state ≠ st := by
    rintro rfl
    exact Bool.false_ne_true (hst.symm.trans hforced)
  have heval : (u.restartEmission c).evaluation c none = ⟨0, 0, 0, 0, 0, 0, false, .forced, .set⟩ :=
    State.evaluation_of_forced (by rw [State.restartEmission_eq, State.ctl_withCtl_same]; exact hforced) none
  have hwatched : (u.ctl c).state.watched = false := ChanState.watched_of_forced hforced
  have hnotes : u.evaluatedNotes c none ⟨0, 0, 0, 0, 0, 0, false, .forced, .set⟩ = (u.chan c).notes := by
    have hdemand : u.demandNotes c none = (u.chan c).notes := by
      have hinjected : (u.ctl c).state ≠ .injected := hfree rfl
      unfold State.demandNotes
      split <;> first | rfl | contradiction
    simp [State.evaluatedNotes, hdemand]
  have hctl : u.evaluatedCtl c ⟨0, 0, 0, 0, 0, 0, false, .forced, .set⟩ = { u.ctl c with
      watch := none, zeroMoment := if (u.gate c).out = 0 then (u.ctl c).zeroMoment else u.moment } := by
    have hramp : (u.ctl c).state ≠ .parkingRamp := hfree rfl
    simp [State.evaluatedCtl, hwatched, hramp]
  rw [exec_emissionExpiry hline htimer hreached, State.evaluate_restarted heval, hctl, hnotes, State.listAfter_of_ne]
  · rfl
  · rw [State.ctl_handDrive, State.ctl_withChan_same]
    exact hfree rfl

/-! ## In every other state -/

/-- What an emission's evaluation leaves of the channel before the list's part (R66, R80, R84, R129). -/
def State.emitted (s : State) (c : Chan) : State :=
  let e := s.outcome c (s.ownDemand c)
  s.withChan c { s.chan c with
    gate := ⟨e.output, some s.now, e.downCap, e.upCap⟩,
    ctl := { s.evaluatedCtl c e with emission := some (s.ms + (s.hoist c).emission) },
    notes := s.evaluatedNotes c none e }

/-- The frame of an emission outside the forced states (R67, R68, R69). -/
def State.emittedFrame (s : State) (c : Chan) : Frame :=
  let e := s.outcome c (s.ownDemand c)
  s.ownFrame c e.output (s.ctl c).state.brakeCommand.code
    (markOf (s.ownDemand c) e.target e.ramped e.output)

/-- A change of the record that keeps what the demand and the brake command read keeps the evaluation. -/
theorem State.evaluation_withCtl {s : State} {c : Chan} {k : Controller} (hstate : k.state = (s.ctl c).state)
    (hcurrent : k.current = (s.ctl c).current) (hphase : k.listPhase = (s.ctl c).listPhase)
    (hrecord : k.record = (s.ctl c).record) (hpower : k.power = (s.ctl c).power)
    (hfree : (s.ctl c).state.forced = false) (htrip : s.tripLine = false) :
    (s.withCtl c k).evaluation c none = s.outcome c (s.ownDemand c) := by
  have hfree' : ((s.withCtl c k).ctl c).state.forced = false := by rw [State.ctl_withCtl_same, hstate, hfree]
  rw [State.evaluation_eq_outcome hfree' htrip, State.demand_none,
    State.ownDemand_withCtl hstate hcurrent hphase hrecord hpower,
    State.outcome_withCtl (by rw [hstate]) (by rw [hstate])]

/-- An emission outside the forced states: the evaluation, the list's part, and the frame. -/
theorem exec_emissionExpiry_of_free {s : State} {c : Chan} {e dt : Nat} (hline : s.resetLine ≠ .fullReset)
    (htimer : (s.ctl c).emission = some e) (hreached : e ≤ (s.now + dt) / 1000)
    (hfree : (s.ctl c).state.forced = false) (htrip : s.tripLine = false) :
    exec (.emissionExpiry dt c) s =
      .next ((((s.advance dt).emitted c).listAfter c).handDrive c ((s.advance dt).emittedFrame c)) := by
  let u := s.advance dt
  have heval : (u.restartEmission c).evaluation c none = u.outcome c (u.ownDemand c) := by
    rw [State.restartEmission_eq]
    refine State.evaluation_withCtl ?_ ?_ ?_ ?_ ?_ hfree htrip <;> rfl
  rw [exec_emissionExpiry hline htimer hreached, State.evaluate_restarted heval, State.outcome_mark,
    (localTo_listAfter c).handDrive]
  rfl

/-- No frame causes an emission, so none raises BRAKE_BY_TRAFFIC; SLACK_ROPE belongs to an injection (R128). -/
theorem State.demandNotes_none (s : State) (c : Chan) :
    s.demandNotes c none =
      if (s.ctl c).state = .injected ∧ s.slack c = true then (s.chan c).notes.add ChanKind.slackRope.bit
      else (s.chan c).notes := by
  unfold State.demandNotes
  cases (s.ctl c).state <;> simp

theorem State.slack_iff (s : State) (c : Chan) :
    s.slack c = true ↔ ∀ f, (s.ctl c).record = some f → f.load < (s.hoist c).fMin := by
  rw [State.slack]
  cases (s.ctl c).record <;> simp

/-- In LIST an evaluation raises nothing and leaves RAMP's timer and the limited mark alone; the evaluated mark is set
with the list's part (R111). -/
theorem State.listAfter_emitted {s : State} {c : Chan} (hlist : (s.ctl c).state = .list) :
    (s.emitted c).listAfter c =
      (let n := (s.outcome c (s.ownDemand c)).output
      s.withChan c { s.chan c with
        gate := ⟨n, some s.now, s.newDownCap c, s.newUpCap c⟩,
        ctl := { s.ctl c with
          emission := some (s.ms + (s.hoist c).emission), evaluated := true,
          zeroMoment := if (s.gate c).out ≠ 0 ∧ n = 0 then s.moment else (s.ctl c).zeroMoment,
          watch := if (s.hoist c).crawl * 1000 ≤ n.natAbs then
              (s.ctl c).watch.or (some ⟨s.now, (s.hoist c).toothHold⟩)
            else none } }).tryArrive c := by
  have hnotes : s.evaluatedNotes c none (s.outcome c (s.ownDemand c)) = (s.chan c).notes := by
    simp [State.evaluatedNotes, State.demandNotes_none, hlist]
  have hctl : s.evaluatedCtl c (s.outcome c (s.ownDemand c)) = { s.ctl c with
      zeroMoment :=
        if (s.gate c).out ≠ 0 ∧ (s.outcome c (s.ownDemand c)).output = 0 then s.moment else (s.ctl c).zeroMoment,
      watch := if (s.hoist c).crawl * 1000 ≤ (s.outcome c (s.ownDemand c)).output.natAbs then
          (s.ctl c).watch.or (some ⟨s.now, (s.hoist c).toothHold⟩)
        else none } := by
    simp [State.evaluatedCtl, hlist, ChanState.watched]
  have hin : ((s.emitted c).ctl c).state = .list := by rw [State.emitted, State.ctl_withChan_same]; exact hlist
  rw [State.listAfter, if_pos hin, State.emitted, hnotes, hctl]
  simp only [State.modCtl_eq, State.chan_withChan_same, State.withChan_withChan]
  rfl

/-- The conditions of an arrival right after an evaluation in LIST, on the record that it leaves (R112). -/
theorem State.arrives_withChan_iff {s : State} {c : Chan} {g : Gate} {k : Controller} (hlist : k.state = .list)
    (hmark : k.evaluated = true) (i : Fin 256) :
    (s.withChan c { s.chan c with gate := g, ctl := k }).Arrives c i ↔
      k.current = some i ∧ k.listPhase = .approach
        ∧ ((s.descs[i].target : Int) - (((s.reckon c).depth / 1000 : Nat) : Int)).natAbs ≤ (s.hoist c).arrival
        ∧ g.out = 0 ∧ ∃ f, k.record = some f ∧ f.time.later k.zeroMoment = true
          ∧ f.actual.natAbs ≤ (s.hoist c).standstill := by
  have hrest := (s.withChan c { s.chan c with gate := g, ctl := k }).rest_iff c
  simp only [State.ctl_withChan_same, State.gate_withChan_same] at hrest
  constructor
  · rintro ⟨-, hcurrent, hphase, -, hwindow, hatRest⟩
    rw [State.ctl_withChan_same] at hcurrent hphase
    rw [State.reckon_withChan_same] at hwindow
    exact ⟨hcurrent, hphase, hwindow, hrest.1 hatRest⟩
  · rintro ⟨hcurrent, hphase, hwindow, hatRest⟩
    refine ⟨?_, ?_, ?_, ?_, ?_, hrest.2 hatRest⟩
    all_goals simp only [State.ctl_withChan_same, State.reckon_withChan_same]
    exacts [hlist, hcurrent, hphase, hmark, hwindow]

/-- Settles O22: the evaluation in full; in LIST the three ways its test of arrival can go, elsewhere none. -/
theorem emissionEvaluatesTheChannel : Obligations.EmissionEvaluatesTheChannel := by
  intro dt e s c hline htimer hreached hfree hlive htrip u d down up t r n reached
  have hexec := exec_emissionExpiry_of_free hline htimer hreached hfree htrip
  refine ⟨?_, (u.emitted c).listAfter c, ?_, ?_, ?_, ?_⟩
  · intro hlist frame k w arrives dwell answers
    have hexec' : exec (.emissionExpiry dt c) s = .next ((w.tryArrive c).handDrive c frame) := by
      rw [hexec, State.listAfter_emitted (s := u) hlist]
      rfl
    have harrives (i : Fin 256) : w.Arrives c i ↔ arrives i :=
      State.arrives_withChan_iff (s := u) (g := ⟨n, some u.now, down, up⟩) (k := k) hlist rfl i
    have hk : w.ctl c = k := State.ctl_withChan_same ..
    have hdwell (i : Fin 256) : w.arrivalDwell c i = dwell i := by rw [State.arrivalDwell, hk]; rfl
    refine ⟨fun hno => ?_, fun i hi hpos => ?_, fun i hi hzero => ?_⟩
    · rw [State.tryArrive_of_not fun i => mt (harrives i).1 (hno i)] at hexec'
      exact hexec'
    · rw [((harrives i).2 hi).tryArrive_eq, State.arrive_of_dwell (by rw [hdwell]; exact hpos), hk, hdwell] at hexec'
      exact hexec'
    · rw [((harrives i).2 hi).tryArrive_eq, State.arrive_of_zero (by rw [hdwell]; exact hzero)] at hexec'
      exact (w.completes_complete c i).imp fun v hv => hv ▸ hexec'
  · rw [hexec, (localTo_listAfter c).eq (u.emitted c), State.chan_withChan_same, State.emitted,
      State.withChan_withChan]
    rfl
  · show ((u.emitted c).listAfter c).gate c = _
    rw [State.gate_listAfter, State.emitted, State.gate_withChan_same]
    rfl
  · show ((u.emitted c).listAfter c).reckon c = _
    rw [(localTo_listAfter c).reckon_same, State.emitted, State.reckon_withChan_same]
    rfl
  · intro hother injected limited slack notes
    have hctl : ((u.emitted c).ctl c).state ≠ .list := by
      rw [State.emitted, State.ctl_withChan_same]
      exact hother
    rw [State.listAfter_of_ne hctl, State.emitted, State.chan_withChan_same]
    have hlimited : ((u.ctl c).state = .injected ∧ (u.outcome c (u.ownDemand c)).limited = true) ↔ limited :=
      and_congr_right' (u.outcome_limited c _)
    have hslack : ((u.ctl c).state = .injected ∧ u.slack c = true) ↔ slack := and_congr_right' (u.slack_iff c)
    refine ⟨?_, ?_⟩
    · simp only [State.evaluatedNotes, ← and_assoc, hlimited, State.demandNotes_none, hslack]
      rfl
    · simp only [State.evaluatedCtl, hlimited]
      rfl

/-! ## A dispatch frame -/

/-- The record of a channel whose dispatch frame is to be evaluated (R81, R88). -/
def State.liveCtl (s : State) (c : Chan) : Controller :=
  { s.ctl c with
    state := .trafficLive, emission := none, demand := some (s.ms + (s.hoist c).demandTimeout),
    watch := s.watchIn c .trafficLive }

/-- A DRIVE frame of LEN 5 for a channel in TRAFFIC is evaluated in TRAFFIC-LIVE (R48). -/
theorem State.deliverDrive_of_awaited {s : State} {c : Chan} {f : Frame} (hlen : f.payload.length = 5)
    (htraffic : (s.ctl c).state = .trafficLive ∨ (s.ctl c).state = .trafficLapsed) :
    s.deliverDrive c f = (s.withCtl c (s.liveCtl c)).evaluate c (some f) := by
  have hlive : ((s.modCtl c fun k => { k with emission := none }).enter c .trafficLive).restartDemand c =
      s.withCtl c (s.liveCtl c) := by
    simp only [State.restartDemand, State.modCtl_eq, State.enter_eq, State.chan_withChan_same, State.withChan_withChan,
      State.watchFor_withChan]
    rfl
  rw [← hlive]
  exact if_pos ⟨hlen, (ChanState.isTraffic_iff _).2 htraffic⟩

/-- The demand of a dispatch frame in TRAFFIC-LIVE (R52, R53). -/
def State.dispatched (s : State) (f : Frame) : Int :=
  if byteAt f.payload 2 = 0x00#8 ∧ s.freeze = false then intAt f.payload 0 2 * 1000 else 0

theorem State.demand_dispatch {s : State} {c : Chan} (hstate : (s.ctl c).state = .trafficLive) (f : Frame) :
    s.demand c (some f) = s.dispatched f := by
  have hsource : s.stateDemand c (some f) = dispatchDemand f := by simp only [State.stateDemand, hstate]; rfl
  rw [State.demand, hsource, State.dispatched, dispatchDemand]
  by_cases hfreeze : s.freeze = true
  · rw [if_pos hfreeze, if_neg (by simp [hfreeze])]
  · rw [if_neg hfreeze]
    have hthawed : s.freeze = false := by simpa using hfreeze
    exact if_congr (by simp [hthawed, BrakeCommand.code]) rfl rfl

/-- In TRAFFIC-LIVE no list and no injection takes part, and a brake command other than RUN is told (R52). -/
theorem State.evaluate_dispatch {s : State} {c : Chan} (hstate : (s.ctl c).state = .trafficLive)
    (htrip : s.tripLine = false) {f : Frame} {e : Evaluation} (he : e = s.outcome c (s.dispatched f)) :
    s.evaluate c (some f) =
      (s.withChan c { s.chan c with
        gate := ⟨e.output, some s.now, e.downCap, e.upCap⟩,
        notes := if byteAt f.payload 2 = 0x00#8 then (s.chan c).notes
          else (s.chan c).notes.add ChanKind.brakeByTraffic.bit,
        ctl := { s.ctl c with
          zeroMoment := if (s.gate c).out ≠ 0 ∧ e.output = 0 then s.moment else (s.ctl c).zeroMoment,
          watch := if (s.hoist c).crawl * 1000 ≤ e.output.natAbs then
              (s.ctl c).watch.or (some ⟨s.now, (s.hoist c).toothHold⟩)
            else none } }).handDrive c
        (rewritten f e.output 0x00#8 (markOf (s.dispatched f) e.target e.ramped e.output)) := by
  have hfree : (s.ctl c).state.forced = false := by rw [hstate]; rfl
  have heval : s.evaluation c (some f) = e := by
    rw [State.evaluation_eq_outcome hfree htrip, State.demand_dispatch hstate, he]
  have hnotes : s.evaluatedNotes c (some f) e =
      if byteAt f.payload 2 = 0x00#8 then (s.chan c).notes
      else (s.chan c).notes.add ChanKind.brakeByTraffic.bit := by
    have hdemand : s.demandNotes c (some f) =
        if byteAt f.payload 2 = 0x00#8 then (s.chan c).notes
        else (s.chan c).notes.add ChanKind.brakeByTraffic.bit := by
      simp only [State.demandNotes, hstate]
      rfl
    rw [← hdemand]
    simp [State.evaluatedNotes, hstate]
  have hctl : s.evaluatedCtl c e = { s.ctl c with
      zeroMoment := if (s.gate c).out ≠ 0 ∧ e.output = 0 then s.moment else (s.ctl c).zeroMoment,
      watch := if (s.hoist c).crawl * 1000 ≤ e.output.natAbs then
          (s.ctl c).watch.or (some ⟨s.now, (s.hoist c).toothHold⟩)
        else none } := by
    simp [State.evaluatedCtl, hstate, ChanState.watched]
  have hframe : s.driveFrame c (some f) e =
      rewritten f e.output 0x00#8 (markOf (s.dispatched f) e.target e.ramped e.output) := by
    have hbrake : e.brake = .run := by
      rw [he]
      show (s.ctl c).state.brakeCommand = .run
      rw [hstate]; rfl
    have hmark : e.mark.code = markOf (s.dispatched f) e.target e.ramped e.output := by rw [he, State.outcome_mark]
    rw [← hmark]
    simp only [State.driveFrame, hbrake]
    rfl
  rw [State.evaluate_eq, heval, hnotes, hctl, hframe, State.listAfter_of_ne]
  rw [State.ctl_handDrive, State.ctl_withChan_same]
  simp [hstate]

/-- A dispatch frame's evaluation in full: the change to LIVE leaves the caps and the ramp alone. -/
theorem State.deliverDrive_eq {s : State} {c : Chan} {f : Frame} (hlen : f.payload.length = 5)
    (htraffic : (s.ctl c).state = .trafficLive ∨ (s.ctl c).state = .trafficLapsed) (htrip : s.tripLine = false)
    {e : Evaluation} (he : e = s.outcome c (s.dispatched f)) :
    s.deliverDrive c f =
      (s.withChan c { s.chan c with
        gate := ⟨e.output, some s.now, e.downCap, e.upCap⟩,
        notes := if byteAt f.payload 2 = 0x00#8 then (s.chan c).notes
          else (s.chan c).notes.add ChanKind.brakeByTraffic.bit,
        ctl := { s.liveCtl c with
          zeroMoment := if (s.gate c).out ≠ 0 ∧ e.output = 0 then s.moment else (s.liveCtl c).zeroMoment,
          watch := if (s.hoist c).crawl * 1000 ≤ e.output.natAbs then
              (s.liveCtl c).watch.or (some ⟨s.now, (s.hoist c).toothHold⟩)
            else none } }).handDrive c
        (rewritten f e.output 0x00#8 (markOf (s.dispatched f) e.target e.ramped e.output)) := by
  have hforced : (s.liveCtl c).state.forced = (s.ctl c).state.forced := by
    rcases htraffic with h | h <;> rw [h] <;> rfl
  have hbrake : (s.liveCtl c).state.brakeCommand = (s.ctl c).state.brakeCommand := by
    rcases htraffic with h | h <;> rw [h] <;> rfl
  have hlive : ((s.withCtl c (s.liveCtl c)).ctl c).state = .trafficLive := by rw [State.ctl_withCtl_same]; rfl
  have he' : e = (s.withCtl c (s.liveCtl c)).outcome c ((s.withCtl c (s.liveCtl c)).dispatched f) := by
    rw [State.outcome_withCtl hforced hbrake, he]; rfl
  rw [State.deliverDrive_of_awaited hlen htraffic, State.evaluate_dispatch hlive htrip he']
  generalize s.liveCtl c = k
  rw [State.ctl_withCtl_same, State.gate_withCtl, State.chan_withCtl_same, State.withCtl, State.withChan_withChan]
  rfl

/-- Settles O23: the frame reaches its channel's gate, which evaluates it. -/
theorem dispatchFrameIsGatedAndForwarded : Obligations.DispatchFrameIsGatedAndForwarded := by
  intro dt s c f rest hline hwait hdest hsrc hother hkind hfilled hunique hlen htraffic htrip u run d down up t r n
  have hdrive : u.driveAt f.dest = some c := State.driveAt_of_unique (s := u) hfilled hunique
  rw [exec_classifyUpstreamFrame hline hwait,
    State.disposeUpstream_of_drive (s := u) ⟨hdest, hsrc⟩ hother hkind hdrive,
    State.deliverDrive_eq (s := u) hlen htraffic htrip rfl]
  rfl

end Sys2Proof.Machine
end


section
/-! Tooth events (R25 to R32): which tooth is early, what an applied one leaves of the channel, and the third early one
in a row. -/

namespace Sys2Proof.Machine

theorem exec_toothEvent {s : State} (hline : s.resetLine ≠ .fullReset) (hfilled : s.activeFilled = true) (dt : Nat)
    (c : Chan) (high : Bool) :
    exec (.toothEvent dt c high) s = .next ((s.advance dt).tooth c (if high then .down else .up)) := by
  have hawake : (s.advance dt).awake = true := State.awake_of_ne hline
  have hconfigured : (s.advance dt).configured c = true := hfilled
  show execToothEvent dt c high s = _
  simp only [execToothEvent, hawake, hconfigured, Bool.and_self, if_true]

theorem outOfRange_iff (d : Int) : outOfRange d = true ↔ d < 0 ∨ 2000000000 < d := by
  simp only [outOfRange, Bool.or_eq_true, decide_eq_true_eq]
  rfl

theorem State.toothTarget_of_high (s : State) (c : Chan) (high : Bool) :
    s.toothTarget c (if high then .down else .up) =
      if high then ((s.reckon c).depth : Int) + (s.effectivePitch c : Int)
      else ((s.reckon c).depth : Int) - (s.effectivePitch c : Int) := by
  cases high <;> rfl

/-- What a tooth that is applied leaves of the channel (R30, R31, R45). -/
theorem State.applyTooth_eq {s : State} {c : Chan} {dir : Direction} {target : Int}
    (htarget : s.toothTarget c dir = target) (history : List Nat) :
    s.applyTooth c dir history = s.withChan c { s.chan c with
      reckon := { s.reckon c with
        depth := if target < 0 then 0 else if 2000000000 < target then 2000000000 else target.toNat,
        history := history, lastTooth := some s.now, lastDir := some dir, earlyCount := 0,
        quality := if target < 0 ∨ 2000000000 < target then .lost else (s.reckon c).quality,
        goodCount := if target < 0 ∨ 2000000000 < target then 0 else (s.reckon c).goodCount },
      ctl := { s.ctl c with watch := (s.ctl c).watch.map fun _ => ⟨s.now, (s.hoist c).toothHold⟩ },
      notes := if target < 0 ∨ 2000000000 < target then (s.chan c).notes.add ChanKind.depthLost.bit
        else (s.chan c).notes } := by
  simp only [State.applyTooth, htarget, outOfRange_iff, limitDepth_eq_ite]
  by_cases hbeyond : target < 0 ∨ 2000000000 < target
  · simp only [if_pos hbeyond, State.loseDepth_eq, State.modReckon_eq, State.modCtl_eq, State.chan_withChan_same,
      State.withChan_withChan]
    rfl
  · simp only [if_neg hbeyond, State.modReckon_eq, State.modCtl_eq, State.chan_withChan_same,
      State.withChan_withChan]
    rfl

/-- A tooth is early with enough intervals in the history and its own below the window (R27). -/
theorem State.toothIsEarly_iff (s : State) (c : Chan) (i : Nat) :
    s.toothIsEarly c i = true ↔
      (s.hoist c).nr ≤ (s.reckon c).history.length
        ∧ i < lowerBound (s.reckon c).history (s.hoist c).nr (s.hoist c).window := by
  simp [State.toothIsEarly]

/-- A tooth that reverses the direction, or that is not early, is applied; a reversal empties the history first (R26,
R27, R32). -/
theorem State.tooth_of_applied {s : State} {c : Chan} {dir : Direction}
    (h : (s.reckon c).lastDir ≠ some dir ∨ ¬ s.toothIsEarly c (s.toothInterval c) = true) :
    s.tooth c dir = s.applyTooth c dir
      (enterInterval (if (s.reckon c).lastDir = some dir then (s.reckon c).history else []) (s.toothInterval c)) := by
  simp only [State.tooth]
  by_cases hsame : (s.reckon c).lastDir = some dir
  · rw [if_neg (not_not_intro hsame), if_neg (h.resolve_left (not_not_intro hsame)), if_pos hsame]
  · rw [if_pos hsame, if_neg hsame]

theorem State.tooth_of_early {s : State} {c : Chan} {dir : Direction} (hsame : (s.reckon c).lastDir = some dir)
    (hearly : s.toothIsEarly c (s.toothInterval c) = true) : s.tooth c dir = s.earlyTooth c dir := by
  simp only [State.tooth]
  rw [if_neg (not_not_intro hsame), if_pos hearly]

/-- Settles O24: the tooth is not early, and its application is the change stated. -/
theorem toothMovesTheDepth : Obligations.ToothMovesTheDepth := by
  intro dt s c high hline hfilled u h k dir i newest p happlied pitch target beyond history
  have hearly : k.lastDir ≠ some dir ∨ ¬ u.toothIsEarly c (u.toothInterval c) = true := by
    refine happlied.imp_right fun hlate hearly => ?_
    obtain ⟨hlong, hbelow⟩ := (u.toothIsEarly_iff c i).1 hearly
    have hbelow : i < p - p * h.window / 64 := hbelow
    have hlong : h.nr ≤ k.history.length := hlong
    omega
  have htarget : u.toothTarget c dir = target := u.toothTarget_of_high c high
  rw [exec_toothEvent hline hfilled, State.tooth_of_applied hearly, State.applyTooth_eq htarget]
  rfl

/-- The channel told of `count` early teeth (R28, R182). -/
def Channel.earlyTold (x : Channel) (count : Nat) : Source 18 :=
  { x.notes.add ChanKind.toothEarly.bit with detail := { x.notes.detail with earlyTeeth := some count } }

theorem State.raiseEarly_eq (s : State) (c : Chan) (count : Nat) :
    s.raiseEarly c count = s.withChan c { s.chan c with notes := (s.chan c).earlyTold count } := rfl

theorem State.earlyTooth_of_few {s : State} {c : Chan} (hfew : (s.reckon c).earlyCount < 2) (dir : Direction) :
    s.earlyTooth c dir = s.withChan c { s.chan c with
      reckon := { s.reckon c with earlyCount := (s.reckon c).earlyCount + 1 },
      notes := (s.chan c).earlyTold ((s.reckon c).earlyCount + 1) } := by
  simp only [State.earlyTooth]
  rw [if_pos hfew]
  simp only [State.raiseEarly_eq, State.modReckon_eq, State.chan_withChan_same, State.withChan_withChan]
  rfl

/-- DEPTH_LOST is pending once, whether or not the tooth itself has raised it (R29, R31, R182). -/
theorem Source.add_add {k : Nat} (n : Source k) (bit : Nat) : (n.add bit).add bit = n.add bit := by
  simp only [Source.add, BitVec.or_assoc, BitVec.or_self]

/-- The third early tooth in a row (R29). -/
theorem State.earlyTooth_of_third {s : State} {c : Chan} (hthird : (s.reckon c).earlyCount = 2) {dir : Direction}
    {target : Int} (htarget : s.toothTarget c dir = target) :
    s.earlyTooth c dir = s.withChan c { s.chan c with
      reckon := { s.reckon c with
        depth := if target < 0 then 0 else if 2000000000 < target then 2000000000 else target.toNat,
        history := [], lastTooth := some s.now, lastDir := some dir, earlyCount := 0, quality := .lost,
        goodCount := 0 },
      ctl := { s.ctl c with watch := (s.ctl c).watch.map fun _ => ⟨s.now, (s.hoist c).toothHold⟩ },
      notes := ((s.chan c).earlyTold 3).add ChanKind.depthLost.bit } := by
  have hnot : ¬ (s.reckon c).earlyCount < 2 := by omega
  have htold : (s.raiseEarly c 3).toothTarget c dir = target := by
    rw [← htarget]
    simp only [State.toothTarget, State.effectivePitch, State.raiseEarly, State.reckon_raiseDetail,
      State.hoist_raiseDetail]
  simp only [State.earlyTooth]
  rw [if_neg hnot, State.applyTooth_eq htold, State.loseDepth_eq]
  simp only [State.raiseEarly_eq, State.chan_withChan_same, State.withChan_withChan, State.reckon_withChan_same,
    State.ctl_withChan_same, State.withChan_now, State.withChan_hoist]
  by_cases hbeyond : target < 0 ∨ 2000000000 < target
  · simp only [if_pos hbeyond, Source.add_add]
    rfl
  · simp only [if_neg hbeyond]
    rfl

/-- Settles O25: two early teeth are counted, the third is applied and the depth is LOST. -/
theorem earlyTeethAreDiscardedTwice : Obligations.EarlyTeethAreDiscardedTwice := by
  intro dt s c high hline hfilled u h k dir i newest p hsame hlong hbelow early
  have hearly : u.toothIsEarly c (u.toothInterval c) = true := (u.toothIsEarly_iff c i).2 ⟨hlong, hbelow⟩
  have hexec : exec (.toothEvent dt c high) s = .next (u.earlyTooth c dir) := by
    rw [exec_toothEvent hline hfilled, State.tooth_of_early (s := u) hsame hearly]
  refine ⟨fun hfew => ?_, fun hthird => ?_⟩
  · rw [hexec, State.earlyTooth_of_few (s := u) hfew]
    rfl
  · intro pitch target
    have htarget : u.toothTarget c dir = target := u.toothTarget_of_high c high
    rw [hexec, State.earlyTooth_of_third (s := u) hthird htarget]
    rfl

end Sys2Proof.Machine
end

section
/-! LANDMARK frames (R33 to R40) and what a landmark does to the list (R115 to R118). -/

namespace Sys2Proof.Machine

theorem exec_classifyDownstreamFrame {s : State} {f : Frame} {rest : List Frame} (hline : s.resetLine = .negated)
    (hwait : s.portD.rx = f :: rest) (dt : Nat) :
    exec (.classifyDownstreamFrame dt) s =
      .next (State.disposeDownstream { s.advance dt with portD := { s.portD with rx := rest } } f) := by
  have hheld : (s.advance dt).heldInReset = false := by simp [State.heldInReset, hline]
  have hqueue : (s.advance dt).portD.rx = f :: rest := hwait
  show execClassifyDownstreamFrame dt s = _
  rw [execClassifyDownstreamFrame]
  simp only [hheld, hqueue]
  rfl

theorem State.disposeDownstream_of_null (s : State) {f : Frame} (hnull : ¬ (f.dest ≠ 0x00#8 ∧ f.src ≠ 0x00#8)) :
    s.disposeDownstream f = s :=
  if_pos (by simpa only [not_and_or, not_not] using hnull)

section
variable {s : State} {f : Frame} (hreal : f.dest ≠ 0x00#8 ∧ f.src ≠ 0x00#8)
include hreal

/-- A LANDMARK frame from the signalling unit is read and goes on (R33, R167). -/
theorem State.disposeDownstream_of_landmark (hkind : f.kind = 0x33#8) (hsrc : f.src = s.active.shaft.signalling) :
    s.disposeDownstream f = (s.readLandmark f).forwardUp f := by
  have hfeedback : ¬ f.kind = kindFeedback := fun h => absurd (hkind.symm.trans h) (by decide)
  have hlandmark : f.kind = kindLandmark ∧ f.src = s.active.shaft.signalling := ⟨hkind, hsrc⟩
  rw [State.disposeDownstream, if_neg (not_or.2 hreal), if_neg hfeedback, if_pos hlandmark]

end

theorem chanOf_chanByte (c : Chan) : chanOf (chanByte c).toNat = some c := by cases c <;> rfl

theorem landmarkOf_byte (n : Fin 64) : landmarkOf (BitVec.ofNat 8 n.val).toNat = some n := by
  have hn : (BitVec.ofNat 8 n.val).toNat = n.val := by
    rw [BitVec.toNat_ofNat]
    exact Nat.mod_eq_of_lt (by omega)
  rw [hn, landmarkOf, dif_pos n.isLt]

/-- A payload of LEN 4 whose number and channel name an entry is attributed to it where it is present and of the
channel's lane (R33). -/
theorem State.attribute_of_named (s : State) {payload : List Byte} {c : Chan} {n : Fin 64}
    (hlen : payload.length = 4) (hnumber : byteAt payload 0 = BitVec.ofNat 8 n.val)
    (hchannel : byteAt payload 1 = chanByte c) :
    s.attribute payload =
      if (s.active.landmarks[n]).present = true ∧ (s.active.landmarks[n]).lane = laneOf c then
        some (c, n, s.active.landmarks[n])
      else none := by
  simp only [State.attribute, if_pos hlen, hnumber, hchannel, chanOf_chanByte, landmarkOf_byte]

/-- The travel since the switch edge by the last direction (R35). -/
theorem State.travel_eq (s : State) (c : Chan) (age : Nat) :
    s.travel c age =
      (let speed : Int := match (s.reckon c).history.getLast? with
        | none => 0
        | some i => ((s.effectivePitch c * 1000000 / i : Nat) : Int)
      match (s.reckon c).lastDir with
      | some .down => (speed * (age : Int)).tdiv 1000000
      | some .up => (-speed * (age : Int)).tdiv 1000000
      | none => 0) := by
  simp only [State.travel, State.speedEstimate]
  cases (s.reckon c).history.getLast? <;> rcases (s.reckon c).lastDir with _ | (_ | _) <;> simp

/-- Settles O27: the frame is attributed, its error taken and recorded, and the list is offered it. -/
theorem landmarkFrameIsReckoned : Obligations.LandmarkFrameIsReckoned := by
  intro dt s f rest c n hline hwait hdest hsrc hkind hfrom hlen hnumber hchannel hpresent hlane u m k h age pitch speed
    edge moved e v w
  have hattribute : u.attribute f.payload = some (c, n, m) :=
    (u.attribute_of_named hlen hnumber hchannel).trans (if_pos ⟨hpresent, hlane⟩)
  have hread : u.readLandmark f = u.landmark c n m (natAt f.payload 2 2) := by
    simp only [State.readLandmark, hattribute]
  have hmoved : u.travel c (natAt f.payload 2 2) = moved := u.travel_eq c _
  have herror : u.landmarkError c m (natAt f.payload 2 2) = e := by
    rw [State.landmarkError, hmoved]
    rfl
  rw [exec_classifyDownstreamFrame hline hwait, State.disposeDownstream_of_landmark (s := u) ⟨hdest, hsrc⟩ hkind hfrom,
    hread, State.landmark, herror]
  rfl

/-! ## The offer to the list -/

/-- The conditions of a match (R115). -/
structure State.Matches (s : State) (c : Chan) (n : Fin 64) (i : Fin 256) (a : MatchAction) : Prop where
  inList : (s.ctl c).state = .list
  approaching : (s.ctl c).listPhase = .approach
  current : (s.ctl c).current = some i
  watch : (s.descs[i]).watch = some (n, a)

/-- The channel's notices with LANDMARK_MATCH told (R115, R182). -/
def Channel.matchTold (x : Channel) (n : Fin 64) (e : Int) : Source 18 :=
  { x.notes.add ChanKind.landmarkMatch.bit with detail := { x.notes.detail with landmark := some (e, n.val) } }

/-- The state with LANDMARK_MATCH told. -/
def State.matchTold (s : State) (c : Chan) (n : Fin 64) (e : Int) : State :=
  s.withChan c { s.chan c with notes := (s.chan c).matchTold n e }

theorem State.offerLandmark_of_match {s : State} {c : Chan} {n : Fin 64} {i : Fin 256} {a : MatchAction}
    (h : s.Matches c n i a) (e : Int) : s.offerLandmark c n e = (s.matchTold c n e).actOnMatch c i a := by
  obtain ⟨hlist, hphase, hcurrent, hwatch⟩ := h
  have hwatch : (s.desc i).watch = some (n, a) := hwatch
  simp only [State.offerLandmark, hcurrent, hwatch, hlist, hphase, and_self, if_true]
  rfl

theorem State.offerLandmark_of_not {s : State} {c : Chan} {n : Fin 64} (h : ∀ i a, ¬ s.Matches c n i a) (e : Int) :
    s.offerLandmark c n e = s := by
  cases hcurrent : (s.ctl c).current with
  | none => simp only [State.offerLandmark, hcurrent]
  | some i =>
    cases hwatch : (s.desc i).watch with
    | none => simp only [State.offerLandmark, hcurrent, hwatch]
    | some x =>
      obtain ⟨m, a⟩ := x
      simp only [State.offerLandmark, hcurrent, hwatch]
      refine if_neg fun ⟨hlist, hphase, hsame⟩ => h i a ⟨hlist, hphase, hcurrent, ?_⟩
      exact hwatch.trans (by rw [hsame])

section
variable {s t : State} {c : Chan} (hctl : s.ctl c = t.ctl c) (hgate : s.gate c = t.gate c)
  (hhoist : s.hoist c = t.hoist c) (hnow : s.now = t.now)

include hctl hgate hhoist in
theorem State.rest_congr : s.rest c = t.rest c := by
  rw [State.rest, hctl, hgate, hhoist]
  rfl

include hctl hhoist hnow in
theorem State.emissionOn_congr : s.emissionOn c = t.emissionOn c := by
  rw [State.emissionOn, State.ms, hctl, hhoist, hnow]
  rfl

include hctl hgate hhoist hnow

theorem State.watchIn_congr (st : ChanState) : s.watchIn c st = t.watchIn c st := by
  simp only [State.watchIn, hctl, hgate, hhoist, hnow]

/-- The record of an entry to STOPPING with destination HELD reads the channel's own record, gate and figures, and the
clock (R89, R91). -/
theorem State.stoppedCtl_congr : s.stoppedCtl c = t.stoppedCtl c := by
  simp only [State.stoppedCtl, State.rest_congr hctl hgate hhoist, State.emissionOn_congr hctl hhoist hnow,
    State.watchIn_congr hctl hgate hhoist hnow, hctl]

theorem State.suspendedCtl_congr (i : Fin 256) (carried : Option Nat) :
    s.suspendedCtl c i carried = t.suspendedCtl c i carried := by
  simp only [State.suspendedCtl, State.rest_congr hctl hgate hhoist, State.emissionOn_congr hctl hhoist hnow,
    State.watchIn_congr hctl hgate hhoist hnow, hctl]

end

theorem State.matchTold_ctl (s : State) (c : Chan) (n : Fin 64) (e : Int) : (s.matchTold c n e).ctl c = s.ctl c :=
  State.ctl_withChan_same ..

theorem State.matchTold_gate (s : State) (c : Chan) (n : Fin 64) (e : Int) : (s.matchTold c n e).gate c = s.gate c :=
  State.gate_withChan_same ..

theorem State.withCtl_matchTold (s : State) (c : Chan) (n : Fin 64) (e : Int) (k : Controller) :
    (s.matchTold c n e).withCtl c k =
      s.withChan c { s.chan c with notes := (s.chan c).matchTold n e, ctl := k } := by
  simp only [State.matchTold, State.withCtl, State.chan_withChan_same, State.withChan_withChan]

/-- A match stops the channel toward SUSPENDED (R116, R117). -/
theorem State.stopToSuspended_matchTold {s : State} {c : Chan} {i : Fin 256} (hcurrent : (s.ctl c).current = some i)
    (n : Fin 64) (e : Int) :
    (s.matchTold c n e).stopToSuspended c = s.withChan c { s.chan c with
      notes := (s.chan c).matchTold n e, ctl := s.suspendedCtl c i (s.ctl c).carried } := by
  have hcurrent' : ((s.matchTold c n e).ctl c).current = some i := by rw [State.matchTold_ctl, hcurrent]
  rw [State.stopToSuspended_eq _ _ hcurrent', State.withCtl_matchTold, State.matchTold_ctl,
    State.suspendedCtl_congr (s.matchTold_ctl c n e) (s.matchTold_gate c n e) rfl rfl]

/-- The states in which a pair stop reaches the partner (R117). -/
theorem State.pairStop_of_taken {s : State} {c : Chan}
    (h : (s.ctl c).state = .trafficLive ∨ (s.ctl c).state = .trafficLapsed ∨ (s.ctl c).state = .list
      ∨ (s.ctl c).state = .injected ∨ (s.ctl c).state = .suspended) :
    s.pairStop c = s.withCtl c (s.stoppedCtl c) := by
  rw [← State.stopToHeld_eq]
  rcases h with h | h | h | h | h <;> simp only [State.pairStop, h]

/-- The states in which it does not. -/
theorem State.pairStop_of_left {s : State} {c : Chan}
    (h : (s.ctl c).state = .held ∨ (∃ x, (s.ctl c).state = .stopping x) ∨ (s.ctl c).state = .parkingRamp
      ∨ (s.ctl c).state = .parkingSet ∨ (s.ctl c).state = .releasingProve ∨ (s.ctl c).state = .releasingOpen
      ∨ (s.ctl c).state.forced = true) :
    s.pairStop c = s := by
  unfold State.pairStop
  cases hst : (s.ctl c).state <;> simp_all [ChanState.forced]

/-- A skipped descriptor without a successor ends the list (R118). -/
theorem State.skip_of_last {s : State} {c : Chan} {i : Fin 256} (h : s.successor i = none) :
    s.skip c i = s.withChan c { s.chan c with
      notes := (s.chan c).notes.add ChanKind.listEnd.bit, ctl := s.stoppedCtl c } := by
  have hstopped : (s.raise c .listEnd).stoppedCtl c = s.stoppedCtl c :=
    State.stoppedCtl_congr (State.ctl_raise ..) (State.gate_raise ..) rfl rfl
  simp only [State.skip, h, State.stopToHeld_eq, hstopped]
  simp only [State.raise_eq, State.withCtl, State.chan_withChan_same, State.withChan_withChan]

theorem State.skip_of_successor {s : State} {c : Chan} {i j : Fin 256} (h : s.successor i = some j) :
    s.skip c i = s.becomeCurrent c j := by
  simp only [State.skip, h]

/-- Settles O28: an offer that matches acts by its action, and no other offer acts. -/
theorem landmarkMatchActsOnTheList : Obligations.LandmarkMatchActsOnTheList := by
  intro s c n e matches_ told q
  have hmatch {i a} (h : matches_ i a) : s.Matches c n i a := ⟨h.1, h.2.1, h.2.2.1, h.2.2.2⟩
  have hoffer {i a} (h : matches_ i a) : s.offerLandmark c n e = (s.matchTold c n e).actOnMatch c i a :=
    State.offerLandmark_of_match (hmatch h) e
  have hsuccessor (i : Fin 256) : (s.matchTold c n e).successor i = s.successor i := rfl
  refine ⟨fun h => ?_, fun i h => hoffer h, fun i h => ?_, fun i h => ?_, fun i h hlast => ?_,
    fun i j h hj hfree => ?_, fun i j cause h hj hbar => ?_⟩
  · exact State.offerLandmark_of_not (fun i a hm => h i a ⟨hm.inList, hm.approaching, hm.current, hm.watch⟩) e
  · exact (hoffer h).trans (State.stopToSuspended_matchTold (hmatch h).current n e)
  · intro t
    have hq : t.chan q = s.chan q := State.chan_withChan_ne _ _ (partnerOf_ne c)
    have hctl : t.ctl q = s.ctl q := congrArg Channel.ctl hq
    have hpair : s.offerLandmark c n e = t.pairStop q :=
      (hoffer h).trans (congrArg (State.pairStop · q) (State.stopToSuspended_matchTold (hmatch h).current n e))
    rw [hpair, ← hctl]
    refine ⟨fun htaken => ?_, State.pairStop_of_left⟩
    rw [State.pairStop_of_taken htaken, State.stoppedCtl_congr hctl (congrArg Channel.gate hq) rfl rfl]
  · have hstopped : (s.matchTold c n e).stoppedCtl c = s.stoppedCtl c :=
      State.stoppedCtl_congr (s.matchTold_ctl c n e) (s.matchTold_gate c n e) rfl rfl
    refine (hoffer h).trans ?_
    rw [State.actOnMatch, State.skip_of_last ((hsuccessor i).trans hlast.eq), hstopped]
    simp only [State.matchTold, State.chan_withChan_same, State.withChan_withChan]
    rfl
  · refine (hoffer h).trans ?_
    rw [State.actOnMatch, State.skip_of_successor ((hsuccessor i).trans hj.eq),
      State.becomeCurrent_of_free (s := s.matchTold c n e) hfree.barred, State.withCtl_matchTold, State.matchTold_ctl]
    rfl
  · refine (hoffer h).trans ?_
    rw [State.actOnMatch, State.skip_of_successor ((hsuccessor i).trans hj.eq),
      State.becomeCurrent_of_barred (s := s.matchTold c n e) hbar.barred]
    rfl

end Sys2Proof.Machine
end


section
/-! Reception and transmission (R156 to R162): what each byte and each level of the line does to a port, and the frame
that a run of bytes puts at the end of the receive queue. -/

namespace Sys2Proof.Machine

@[simp] theorem State.port_advance (s : State) (dt : Nat) (p : PortId) : (s.advance dt).port p = s.port p := by
  cases p <;> rfl

theorem State.modPort_modPort (s : State) (p : PortId) (f g : Port → Port) :
    (s.modPort p f).modPort p g = s.modPort p fun q => g (f q) := by
  cases p <;> rfl

/-- A port that is LIVE and not held takes line events (R151, R161). -/
theorem State.receives_advance {s : State} {p : PortId} (hline : s.resetLine = .negated)
    (hlive : (s.port p).live = true) (dt : Nat) : (s.advance dt).receives p = true :=
  (State.portOpen_iff _ p).2 ⟨by rw [State.port_advance, hlive], hline⟩

/-- The next byte is the CHECK when header and payload are complete (R156). -/
theorem atCheck_iff (b : List Byte) :
    atCheck b = true ↔ 5 ≤ b.length ∧ b.length = (byteAt b 4).toNat + 5 := by
  simp only [atCheck, frameSize, Bool.and_eq_true, decide_eq_true_eq, beq_iff_eq]
  omega

theorem atLen_iff (b : List Byte) : atLen b = true ↔ b.length = 4 := beq_iff_eq

/-! ## One byte -/

section
variable {s : State} {p : PortId} (hquiet : (s.port p).hunting = false)
include hquiet

/-- A frame with a right CHECK joins the receive queue where there is room (R157, R159). -/
theorem State.receiveByte_of_good {check : Byte} (hfull : atCheck (s.port p).receiving = true)
    (hgood : crc8 (frameOf (s.port p).receiving check).body = check) (hroom : (s.port p).rx.length < 8) :
    s.receiveByte p check = s.modPort p fun q =>
      { q with receiving := [], rx := q.rx ++ [frameOf (s.port p).receiving check] } := by
  have hroom' : ((s.modPort p fun q => { q with receiving := [] }).port p).rx.length < Config.rxDepth := by
    rw [State.port_modPort_same]
    exact hroom
  rw [State.receiveByte, if_neg (by simp [hquiet]), if_pos hfull, State.finishFrame]
  simp only [if_pos hgood]
  rw [State.offerRx, if_pos hroom', State.modPort_modPort]

/-- Where there is none it is lost (R159). -/
theorem State.receiveByte_of_overrun {check : Byte} (hfull : atCheck (s.port p).receiving = true)
    (hgood : crc8 (frameOf (s.port p).receiving check).body = check) (hno : 8 ≤ (s.port p).rx.length) :
    s.receiveByte p check = (s.modPort p fun q => { q with receiving := [] }).raisePort .rxOverrun p := by
  have hno' : ¬ ((s.modPort p fun q => { q with receiving := [] }).port p).rx.length < Config.rxDepth := by
    rw [State.port_modPort_same]
    exact hno.not_gt
  rw [State.receiveByte, if_neg (by simp [hquiet]), if_pos hfull, State.finishFrame]
  simp only [if_pos hgood]
  rw [State.offerRx, if_neg hno']

theorem State.receiveByte_of_bad {check : Byte} (hfull : atCheck (s.port p).receiving = true)
    (hbad : crc8 (frameOf (s.port p).receiving check).body ≠ check) : s.receiveByte p check = s.lineCheck p := by
  rw [State.receiveByte, if_neg (by simp [hquiet]), if_pos hfull, State.finishFrame]
  exact if_neg hbad

/-- A LEN above 48 ends the frame (R156). -/
theorem State.receiveByte_of_long {len : Byte} (hat : (s.port p).receiving.length = 4) (hlong : 48 < len.toNat) :
    s.receiveByte p len = s.lineCheck p := by
  have hcheck : ¬ atCheck (s.port p).receiving = true := by rw [atCheck_iff]; omega
  have hlen : (atLen (s.port p).receiving && decide (Config.maxPayload < len.toNat)) = true := by
    rw [(atLen_iff _).2 hat, Bool.true_and]
    exact decide_eq_true hlong
  rw [State.receiveByte, if_neg (by simp [hquiet]), if_neg hcheck, if_pos hlen]

/-- Every other byte joins the frame in reception (R156). -/
theorem State.receiveByte_of_plain {x : Byte} (hcheck : ¬ atCheck (s.port p).receiving = true)
    (hlen : (s.port p).receiving.length = 4 → x.toNat ≤ 48) :
    s.receiveByte p x = s.modPort p fun q => { q with receiving := (s.port p).receiving ++ [x] } := by
  have hshort : ¬ (atLen (s.port p).receiving && decide (Config.maxPayload < x.toNat)) = true := by
    simp only [Bool.and_eq_true, atLen_iff, decide_eq_true_eq, not_and, not_lt]
    exact hlen
  rw [State.receiveByte, if_neg (by simp [hquiet]), if_neg hcheck, if_neg hshort]
  cases p <;> rfl

end

/-! ## The rows -/

section
variable {s : State} {p : PortId} (hline : s.resetLine = .negated) (hlive : (s.port p).live = true) (dt : Nat)
include hline hlive

theorem exec_frameByteReceived (b : Byte) :
    exec (.frameByteReceived dt p b) s = .next ((s.advance dt).receiveByte p b) := by
  show execFrameByteReceived dt p b s = _
  simp only [execFrameByteReceived, State.receives_advance hline hlive, if_true]

theorem exec_frameComplete (check : Byte) (hfull : atCheck (s.port p).receiving = true) :
    exec (.frameComplete dt p check) s = .next ((s.advance dt).receiveByte p check) := by
  show execFrameComplete dt p check s = _
  simp only [execFrameComplete, State.receives_advance hline hlive, State.port_advance, hfull, Bool.and_self, if_true]

theorem exec_frameLenExceeded (len : Byte) (hat : (s.port p).receiving.length = 4) (hlong : 48 < len.toNat) :
    exec (.frameLenExceeded dt p len) s = .next ((s.advance dt).receiveByte p len) := by
  have hbeyond : decide (Config.maxPayload < len.toNat) = true := decide_eq_true hlong
  show execFrameLenExceeded dt p len s = _
  simp only [execFrameLenExceeded, State.receives_advance hline hlive, State.port_advance, (atLen_iff _).2 hat,
    hbeyond, Bool.and_self, if_true]

theorem exec_framingError :
    exec (.framingError dt p) s = .next
      (if (s.port p).receiving = [] then (s.advance dt).modPort p fun q => { q with hunting := true }
      else (s.advance dt).lineCheck p) := by
  show execFramingError dt p s = _
  simp only [execFramingError, State.receives_advance hline hlive, State.port_advance, if_true]

theorem exec_frameCut {idle : Nat} (hidle : 200 < idle) (hframe : (s.port p).receiving ≠ []) :
    exec (.frameCut dt p idle) s = .next
      (((s.advance dt).modPort p fun q => { q with receiving := [] }).raisePort .frameCut p) := by
  show execFrameCut dt p idle s = _
  rw [execFrameCut]
  exact congrArg _ (if_pos ⟨State.receives_advance hline hlive dt, by rwa [State.port_advance], hidle⟩)

theorem exec_huntIdleClear {idle : Nat} (hidle : 200 < idle) :
    exec (.huntIdleClear dt p idle) s = .next ((s.advance dt).modPort p fun q => { q with hunting := false }) := by
  show execHuntIdleClear dt p idle s = _
  rw [execHuntIdleClear]
  exact congrArg _ (if_pos ⟨State.receives_advance hline hlive dt, hidle⟩)

end

/-- Settles O29: each clause is one branch of the reception. -/
theorem receptionFollowsTheLine : Obligations.ReceptionFollowsTheLine := by
  intro dt s p hline hlive u b cleared told hunting full f
  have hport : u.port p = s.port p := State.port_advance s dt p
  have hfull (h : full) : atCheck (s.port p).receiving = true := (atCheck_iff b).2 h
  refine ⟨fun check hquiet h hgood hroom => ?_, fun check hquiet h hgood hno => ?_, fun check hquiet h hbad => ?_,
    fun len hquiet hat hlong => ?_, fun x hquiet hnot hlen => ?_, fun x hhunting => ?_, fun hframe => ?_,
    fun hnone => ?_, fun idle hidle hframe => ?_, fun idle hidle => exec_huntIdleClear hline hlive dt hidle⟩
  · rw [exec_frameComplete hline hlive dt check (hfull h),
      State.receiveByte_of_good (s := u) (by rwa [hport]) (by rw [hport]; exact hfull h) (by rwa [hport])
        (by rwa [hport]), hport]
    rfl
  · rw [exec_frameComplete hline hlive dt check (hfull h),
      State.receiveByte_of_overrun (s := u) (by rwa [hport]) (by rw [hport]; exact hfull h) (by rwa [hport])
        (by rwa [hport])]
    rfl
  · rw [exec_frameComplete hline hlive dt check (hfull h),
      State.receiveByte_of_bad (s := u) (by rwa [hport]) (by rw [hport]; exact hfull h) (by rwa [hport])]
    rfl
  · rw [exec_frameLenExceeded hline hlive dt len hat hlong,
      State.receiveByte_of_long (s := u) (by rwa [hport]) (by rwa [hport]) hlong]
    rfl
  · rw [exec_frameByteReceived hline hlive,
      State.receiveByte_of_plain (s := u) (by rwa [hport]) (by rw [hport]; exact mt (atCheck_iff b).1 hnot)
        (by rwa [hport]), hport]
  · rw [exec_frameByteReceived hline hlive, State.receiveByte]
    exact congrArg _ (if_pos (by rwa [State.port_advance]))
  · rw [exec_framingError hline hlive, if_neg hframe]
    rfl
  · rw [exec_framingError hline hlive, if_pos hnone]
  · exact exec_frameCut hline hlive dt hidle hframe

/-! ## A whole frame -/

theorem Frame.body_length (f : Frame) : f.body.length = f.payload.length + 5 := by
  simp only [Frame.body, List.cons_append, List.nil_append, List.length_cons]

theorem Frame.byteAt_body_len {f : Frame} (hlen : f.payload.length ≤ 48) :
    (byteAt f.body 4).toNat = f.payload.length := by
  show (BitVec.ofNat 8 f.payload.length).toNat = _
  rw [BitVec.toNat_ofNat]
  exact Nat.mod_eq_of_lt (by omega)

theorem frameOf_body (f : Frame) : frameOf f.body f.check = f := rfl

/-- A byte that is neither CHECK nor a LEN above 48: what is received of the frame is less than header and payload. -/
theorem Frame.plain_of_prefix {f : Frame} (hlen : f.payload.length ≤ 48) {l m : List Byte} {x : Byte}
    (hbody : f.body = l ++ x :: m) : ¬ atCheck l = true ∧ (l.length = 4 → x.toNat ≤ 48) := by
  have hbyte := Frame.byteAt_body_len hlen
  refine ⟨fun hcheck => ?_, fun hfour => ?_⟩
  · obtain ⟨hfive, hfull⟩ := (atCheck_iff l).1 hcheck
    have hsame : byteAt f.body 4 = byteAt l 4 := by rw [hbody, byteAt_append_left _ (by omega)]
    have htotal : f.body.length = l.length + (m.length + 1) := by rw [hbody]; simp
    rw [hsame] at hbyte
    rw [Frame.body_length] at htotal
    omega
  · have hsame : byteAt f.body 4 = x := by simp [hbody, byteAt, ← hfour]
    rw [hsame] at hbyte
    omega

/-- The rest of a frame's bytes, from wherever its reception stands. -/
theorem runAll_receive {f : Frame} (hlen : f.payload.length ≤ 48) (hcheck : crc8 f.body = f.check) {p : PortId}
    {q : Port} (hlive : q.live = true) (hquiet : q.hunting = false) (hroom : q.rx.length < 8) (dt : Nat)
    (m : List Byte) : ∀ (l : List Byte) (s : State), f.body = l ++ m → s.resetLine = .negated →
      s.port p = { q with receiving := l } →
      ∃ t : State, runAll ((m ++ [f.check]).map fun b => .frameByteReceived dt p b) s = some t
        ∧ t.port p = { q with receiving := [], rx := q.rx ++ [f] } := by
  induction m with
  | nil =>
    intro l s hbody hline hport
    have hl : l = f.body := by rw [hbody, List.append_nil]
    have hfull : atCheck f.body = true :=
      (atCheck_iff _).2 (by rw [Frame.byteAt_body_len hlen, Frame.body_length]; omega)
    have hat : (s.advance dt).port p = { q with receiving := f.body } := by rw [State.port_advance, hport, hl]
    have hend := State.receiveByte_of_good (s := s.advance dt) (p := p) (check := f.check) (by rw [hat, hquiet])
      (by rw [hat]; exact hfull) (by rw [hat]; exact hcheck) (by rw [hat]; exact hroom)
    refine ⟨(s.advance dt).receiveByte p f.check, ?_, ?_⟩
    · simp only [List.nil_append, List.map_cons, List.map_nil, runAll]
      rw [exec_frameByteReceived hline (by rw [hport, hlive])]
    · rw [hend, State.port_modPort_same, hat]
      rfl
  | cons x m ih =>
    intro l s hbody hline hport
    obtain ⟨hplain, hfour⟩ := Frame.plain_of_prefix hlen hbody
    have hat : (s.advance dt).port p = { q with receiving := l } := by rw [State.port_advance, hport]
    have hnext := State.receiveByte_of_plain (s := s.advance dt) (p := p) (x := x) (by rw [hat, hquiet])
      (by rw [hat]; exact hplain) (by rw [hat]; exact hfour)
    obtain ⟨t, hrun, ht⟩ := ih (l ++ [x]) ((s.advance dt).receiveByte p x) (by rw [hbody]; simp)
      (by rw [hnext, State.modPort_resetLine]; exact hline) (by rw [hnext, State.port_modPort_same, hat])
    refine ⟨t, ?_, ht⟩
    simp only [List.cons_append, List.map_cons, runAll]
    rw [exec_frameByteReceived hline (by rw [hport, hlive])]
    exact hrun

/-- Settles O30: by induction on the bytes still to come. -/
theorem frameReceivedByteByByteIsQueued : Obligations.FrameReceivedByteByByteIsQueued := by
  intro s p f dt hline hlive hquiet hnone hroom hlen hcheck
  have hport : s.port p = { s.port p with receiving := [] } := by rw [← hnone]
  obtain ⟨t, hrun, ht⟩ := runAll_receive hlen hcheck hlive hquiet hroom dt f.body [] s rfl hline hport
  exact ⟨t, hrun, by rw [ht, ← hnone]⟩

/-! ## Stuck, freed, transmitted -/

/-- Settles O31: the break's time is counted from the reset that left the port LIVE. -/
theorem stuckPortLosesItsFramesUntilFreed : Obligations.StuckPortLosesItsFramesUntilFreed := by
  intro dt s p hline u told
  refine ⟨fun held hlive hheld hsince => ?_, fun hstuck => ?_⟩
  · have hbreak : Config.breakTime < u.breakTime p held := by
      rw [State.breakTime, State.port_advance]
      exact lt_min hheld hsince
    show execLineStuck dt p held s = _
    rw [execLineStuck]
    exact congrArg _ (if_pos ⟨State.receives_advance hline hlive dt, hbreak⟩)
  · have hfree : (u.port p).live = false ∧ u.heldInReset = false :=
      ⟨by rw [State.port_advance, hstuck], by simp [State.heldInReset, u, hline]⟩
    show execLineFreed dt p s = _
    rw [execLineFreed]
    exact congrArg _ (if_pos hfree)

/-- Settles O32: the oldest entry moves into transmission, and the end of a transmission needs no condition. -/
theorem portSendsItsOldestFrame : Obligations.PortSendsItsOldestFrame := by
  intro dt s p e rest u
  refine ⟨fun hline hlive hidle hqueue => ?_, fun _ => rfl⟩
  have hopen : u.portOpen p = true := State.receives_advance hline hlive dt
  show execFrameTransmitStart dt p s = _
  simp only [execFrameTransmitStart, State.port_advance, hidle, hqueue]
  rw [show (s.advance dt).portOpen p = true from hopen]

end Sys2Proof.Machine
end


section
/-! FEEDBACK frames (R83, R94, R168): the feedback timer, restarted last, plays no part in what a frame confirms, so
that the reading may be taken as one change of the channel before it. -/

namespace Sys2Proof.Machine

/-- The state with another feedback timer of channel `c`. -/
def State.withFeedback (s : State) (c : Chan) (x : Option Nat) : State := s.withCtl c { s.ctl c with feedback := x }

theorem State.restartFeedback_eq (s : State) (c : Chan) :
    s.restartFeedback c = s.withFeedback c (some (s.ms + (s.hoist c).demandTimeout)) := rfl

/-- `op` neither reads nor changes the feedback timer of channel `c`, and leaves the clock and the channel's figures. -/
structure SparesFeedback (c : Chan) (op : State → State) : Prop where
  comm : ∀ s x, op (s.withFeedback c x) = (op s).withFeedback c x
  clock : ∀ s, (op s).ms = s.ms
  figures : ∀ s, (op s).hoist c = s.hoist c

/-- The restart may come first. -/
theorem SparesFeedback.restart {c : Chan} {op : State → State} (h : SparesFeedback c op) (s : State) :
    (op s).restartFeedback c = op (s.restartFeedback c) := by
  rw [State.restartFeedback_eq, State.restartFeedback_eq, h.comm, h.clock, h.figures]

theorem SparesFeedback.refl (c : Chan) : SparesFeedback c fun s => s :=
  ⟨fun _ _ => rfl, fun _ => rfl, fun _ => rfl⟩

theorem SparesFeedback.comp {c : Chan} {f g : State → State} (hg : SparesFeedback c g) (hf : SparesFeedback c f) :
    SparesFeedback c fun s => g (f s) :=
  ⟨fun s x => by rw [hf.comm, hg.comm], fun s => by rw [hg.clock, hf.clock],
    fun s => by rw [hg.figures, hf.figures]⟩

/-- A choice that does not look at the feedback timer. -/
theorem SparesFeedback.ite {c : Chan} {f g : State → State} {p : State → Prop} [DecidablePred p]
    (hf : SparesFeedback c f) (hg : SparesFeedback c g) (hp : ∀ s x, p (s.withFeedback c x) ↔ p s) :
    SparesFeedback c fun s => if p s then f s else g s := by
  refine ⟨fun s x => ?_, fun s => ?_, fun s => ?_⟩ <;> by_cases h : p s
  · simp only [if_pos h, if_pos ((hp s x).2 h), hf.comm]
  · simp only [if_neg h, if_neg (mt (hp s x).1 h), hg.comm]
  · simp only [if_pos h, hf.clock]
  · simp only [if_neg h, hg.clock]
  · simp only [if_pos h, hf.figures]
  · simp only [if_neg h, hg.figures]

/-- A change of the channel's record and notices that keeps any feedback timer. -/
theorem SparesFeedback.of_local {c : Chan} {op : State → State} (hlocal : LocalTo c op)
    (hcomm : ∀ s x, op (s.withFeedback c x) = (op s).withFeedback c x) : SparesFeedback c op := by
  refine ⟨hcomm, fun s => ?_, fun s => ?_⟩
  all_goals obtain ⟨k, n, hx⟩ := hlocal.only s; rw [hx]; rfl

/-! ## What leaves the feedback timer alone -/

theorem State.withFeedback_rest (s : State) (c : Chan) (x : Option Nat) : (s.withFeedback c x).rest c = s.rest c := by
  rw [State.rest_eq, State.withFeedback, State.chan_withCtl_same]
  rfl

theorem State.withFeedback_stoppedCtl (s : State) (c : Chan) (x : Option Nat) :
    (s.withFeedback c x).stoppedCtl c = { s.stoppedCtl c with feedback := x } := by
  rw [State.withFeedback, State.stoppedCtl_withCtl]
  rfl

theorem sparesFeedback_raise (c : Chan) (k : ChanKind) : SparesFeedback c fun s => s.raise c k := by
  refine .of_local (localTo_raise c k) fun s x => ?_
  simp only [State.raise_eq, State.withFeedback, State.withCtl, State.chan_withChan_same, State.withChan_withChan,
    State.ctl_withChan_same]
  rfl

theorem sparesFeedback_becomeCurrent (c : Chan) (i : Fin 256) : SparesFeedback c fun s => s.becomeCurrent c i := by
  refine .of_local (localTo_becomeCurrent c i) fun s x => ?_
  have hsame : (s.withFeedback c x).barred c ((s.withFeedback c x).desc i) = s.barred c (s.desc i) := rfl
  cases hbar : s.barred c (s.desc i) with
  | none =>
    simp only [State.becomeCurrent_of_free hbar, State.becomeCurrent_of_free (hsame.trans hbar)]
    simp only [State.withFeedback, State.withCtl, State.chan_withChan_same, State.withChan_withChan,
      State.ctl_withChan_same]
  | some cause =>
    simp only [State.becomeCurrent_of_barred hbar, State.becomeCurrent_of_barred (hsame.trans hbar)]
    simp only [State.barredOn, State.withFeedback_stoppedCtl]
    simp only [State.withFeedback, State.withCtl, State.chan_withChan_same, State.withChan_withChan,
      State.ctl_withChan_same]

theorem sparesFeedback_endList (c : Chan) : SparesFeedback c fun s => s.endList c := by
  refine .of_local (localTo_endList c) fun s x => ?_
  simp only [State.endList_eq, State.withCtlNote, State.withFeedback, State.withCtl, State.chan_withChan_same,
    State.withChan_withChan, State.ctl_withChan_same]
  rfl

theorem sparesFeedback_succeed (c : Chan) (i : Fin 256) :
    SparesFeedback c fun s => match s.successor i with
      | some j => s.becomeCurrent c j
      | none => s.endList c := by
  refine .of_local (localTo_succeed c i) fun s x => ?_
  have hsame : (s.withFeedback c x).successor i = s.successor i := rfl
  simp only [hsame]
  cases s.successor i with
  | none => exact (sparesFeedback_endList c).comm s x
  | some j => exact (sparesFeedback_becomeCurrent c j).comm s x

theorem sparesFeedback_complete (c : Chan) (i : Fin 256) : SparesFeedback c fun s => s.complete c i :=
  (sparesFeedback_succeed c i).comp ((sparesFeedback_raise c .moveDone).ite (SparesFeedback.refl c)
    (p := fun s => (s.desc i).notify = true) fun _ _ => Iff.rfl)

theorem State.withFeedback_arrivalDwell (s : State) (c : Chan) (x : Option Nat) (i : Fin 256) :
    (s.withFeedback c x).arrivalDwell c i = s.arrivalDwell c i := by
  simp only [State.arrivalDwell, State.withFeedback, State.ctl_withCtl_same]
  rfl

theorem sparesFeedback_arrive (c : Chan) (i : Fin 256) : SparesFeedback c fun s => s.arrive c i := by
  refine .of_local (localTo_arrive c i) fun s x => ?_
  have hdwell := s.withFeedback_arrivalDwell c x i
  by_cases h : s.arrivalDwell c i = 0
  · rw [State.arrive_of_zero h, State.arrive_of_zero (hdwell.trans h), (sparesFeedback_complete c i).comm]
  · rw [State.arrive_of_dwell h, State.arrive_of_dwell (by rwa [hdwell]), hdwell]
    simp only [State.withFeedback, State.withCtl, State.chan_withChan_same, State.withChan_withChan,
      State.ctl_withChan_same]
    rfl

theorem State.arrives_withFeedback (s : State) (c : Chan) (x : Option Nat) (i : Fin 256) :
    (s.withFeedback c x).Arrives c i ↔ s.Arrives c i := by
  have hctl : (s.withFeedback c x).ctl c = { s.ctl c with feedback := x } := State.ctl_withCtl_same ..
  have hreckon : (s.withFeedback c x).reckon c = s.reckon c := State.reckon_withCtl ..
  have hrest := s.withFeedback_rest c x
  constructor
  · rintro ⟨h1, h2, h3, h4, h5, h6⟩
    rw [hctl] at h1 h2 h3 h4
    rw [hreckon] at h5
    rw [hrest] at h6
    exact ⟨h1, h2, h3, h4, h5, h6⟩
  · rintro ⟨h1, h2, h3, h4, h5, h6⟩
    refine ⟨?_, ?_, ?_, ?_, ?_, by rw [hrest]; exact h6⟩
    · rw [hctl]; exact h1
    · rw [hctl]; exact h2
    · rw [hctl]; exact h3
    · rw [hctl]; exact h4
    · rw [hreckon]; exact h5

theorem sparesFeedback_tryArrive (c : Chan) : SparesFeedback c fun s => s.tryArrive c := by
  refine .of_local (localTo_tryArrive c) fun s x => ?_
  by_cases h : ∃ i, s.Arrives c i
  · obtain ⟨i, hi⟩ := h
    rw [hi.tryArrive_eq, ((s.arrives_withFeedback c x i).2 hi).tryArrive_eq, (sparesFeedback_arrive c i).comm]
  · have hno := not_exists.1 h
    rw [State.tryArrive_of_not hno,
      State.tryArrive_of_not fun i => mt (s.arrives_withFeedback c x i).1 (hno i)]

theorem sparesFeedback_modCtl (c : Chan) {g : Controller → Controller}
    (hg : ∀ k x, g { k with feedback := x } = { g k with feedback := x }) : SparesFeedback c fun s => s.modCtl c g := by
  refine .of_local (localTo_modCtl c g) fun s x => ?_
  simp only [State.modCtl_eq, State.withFeedback, State.withCtl, State.chan_withChan_same, State.withChan_withChan,
    State.ctl_withChan_same]
  exact congrArg (fun k => s.withChan c { s.chan c with ctl := k }) (hg _ x)

theorem sparesFeedback_enter (c : Chan) (st : ChanState) : SparesFeedback c fun s => s.enter c st := by
  refine ⟨fun s x => ?_, fun s => by rw [State.enter_eq]; rfl, fun s => by rw [State.enter_eq]; rfl⟩
  rw [State.enter_eq, State.enter_eq, State.withFeedback, State.withFeedback, State.chan_withCtl_same,
    State.ctl_withChan_same, State.withCtl, State.withCtl, State.withChan_withChan, State.withChan_withChan,
    State.chan_withChan_same]
  rfl

theorem sparesFeedback_rewriteForced (c : Chan) : SparesFeedback c fun s => s.rewriteForced c :=
  ⟨fun _ _ => rfl, fun _ => rfl, fun _ => rfl⟩

theorem sparesFeedback_tryStop (c : Chan) (d : Destination) :
    SparesFeedback c fun s => if s.rest c then s.enter c d.state else s :=
  (sparesFeedback_enter c d.state).ite (SparesFeedback.refl c) (p := fun s => s.rest c = true) fun s x => by
    rw [s.withFeedback_rest c x]

theorem sparesFeedback_enterParkingSet (c : Chan) : SparesFeedback c fun s => s.enterParkingSet c := by
  refine ⟨fun s x => ?_, fun s => by rw [State.enterParkingSet_eq]; rfl, fun s => by rw [State.enterParkingSet_eq]; rfl⟩
  simp only [State.enterParkingSet_eq, State.settingWith, State.settingCtl, State.withFeedback, State.withCtl,
    State.chan_withChan_same, State.withChan_withChan, State.ctl_withChan_same, State.gate_withChan_same]
  rfl

/-- What a frame without a drive fault confirms leaves the feedback timer alone, by the channel's state. -/
theorem State.confirmations_restart (s : State) (c : Chan) (r : Feedback) :
    (s.confirmations c r).restartFeedback c = (s.restartFeedback c).confirmations c r := by
  have hstate : ((s.restartFeedback c).ctl c).state = (s.ctl c).state := by
    rw [State.restartFeedback_eq, State.withFeedback, State.ctl_withCtl_same]
  unfold State.confirmations
  rw [hstate]
  cases hst : (s.ctl c).state
  case stopping d =>
    have hboth {t : State} (ht : (t.ctl c).state = .stopping d) :
        t.tryStop c = if t.rest c then t.enter c d.state else t := by simp only [State.tryStop, ht]
    simp only [hboth hst, hboth (hstate.trans hst)]
    exact (sparesFeedback_tryStop c d).restart s
  case parkingRamp =>
    exact (((sparesFeedback_enterParkingSet c).ite (SparesFeedback.refl c)
      (p := fun s => (s.ctl c).state = .parkingRamp ∧ s.rest c = true) fun s x => by
        rw [s.withFeedback_rest c x, State.withFeedback, State.ctl_withCtl_same]).restart s)
  case parkingSet =>
    have hparked : SparesFeedback c fun s => (s.enterParked c).raise c .parked :=
      (sparesFeedback_raise c .parked).comp ((sparesFeedback_rewriteForced c).comp
        ((sparesFeedback_enter c .parked).comp (sparesFeedback_modCtl c fun _ _ => rfl)))
    simp only
    by_cases hset : r.brake = .set
    · simp only [if_pos hset]
      exact hparked.restart s
    · simp only [if_neg hset]
  case releasingOpen =>
    have hheld : SparesFeedback c fun s =>
        ((s.modCtl c fun k => { k with brake := none }).enter c .held).raise c .released :=
      (sparesFeedback_raise c .released).comp
        ((sparesFeedback_enter c .held).comp (sparesFeedback_modCtl c fun _ _ => rfl))
    simp only
    by_cases hreleased : r.brake = .released
    · simp only [if_pos hreleased]
      exact hheld.restart s
    · simp only [if_neg hreleased]
  case list => exact (sparesFeedback_tryArrive c).restart s
  all_goals rfl

theorem sparesFeedback_runEmission (c : Chan) : SparesFeedback c fun s => s.runEmission c := by
  refine ⟨fun s x => ?_, fun s => rfl, fun s => rfl⟩
  rw [State.runEmission_eq, State.runEmission_eq, State.withFeedback, State.withFeedback, State.chan_withCtl_same,
    State.ctl_withChan_same, State.withCtl, State.withCtl, State.withChan_withChan, State.withChan_withChan,
    State.chan_withChan_same]
  rfl

theorem sparesFeedback_enterFault (c : Chan) : SparesFeedback c fun s => s.enterFault c :=
  (sparesFeedback_rewriteForced c).comp ((sparesFeedback_enter c .fault).comp
    ((sparesFeedback_runEmission c).comp (sparesFeedback_modCtl c fun _ _ => rfl)))

/-! ## The reading -/

/-- What the controller does with a frame that has been read (R94, R168): a drive fault comes before every
confirmation. -/
def State.reactTo (s : State) (c : Chan) (r : Feedback) : State :=
  if r.drive = .fault then
    if (s.ctl c).state.takesDriveFault then (s.raise c .driveFault).enterFault c else s
  else s.confirmations c r

theorem State.reactTo_restart (s : State) (c : Chan) (r : Feedback) :
    (s.reactTo c r).restartFeedback c = (s.restartFeedback c).reactTo c r := by
  have hstate : ((s.restartFeedback c).ctl c).state = (s.ctl c).state := by
    rw [State.restartFeedback_eq, State.withFeedback, State.ctl_withCtl_same]
  unfold State.reactTo
  rw [hstate]
  split
  · split
    · exact ((sparesFeedback_enterFault c).comp (sparesFeedback_raise c .driveFault)).restart s
    · rfl
  · exact s.confirmations_restart c r

/-- A FEEDBACK frame of LEN 6 from a configured drive is read, reacted to, and goes on annotated (R83, R94, R167 to
R169). -/
theorem exec_feedback {s : State} {f : Frame} {rest : List Frame} {c : Chan} (h : s.FeedbackWaits f rest c) (dt : Nat) :
    exec (.classifyDownstreamFrame dt) s =
      .next (((s.feedbackRead dt rest c f).reactTo c
        (readFeedback f.payload (s.feedbackRead dt rest c f).moment)).onward c f) := by
  obtain ⟨hline, hwait, hdest, hsrc, hkind, hfilled, hfrom, hlen⟩ := h
  let u : State := { s.advance dt with portD := { s.portD with rx := rest } }
  have hdrive : u.driveAt f.src = some c := State.driveAt_of_unique (s := u) hfilled hfrom
  have hread : u.takeFeedback c f.payload = (s.feedbackRead dt rest c f).reactTo c
      (readFeedback f.payload (s.feedbackRead dt rest c f).moment) := by
    have hfirst : (((u.modCtl c fun k => { k with record := some (readFeedback f.payload u.moment) }).modReckon c
        fun q => { q with load := (readFeedback f.payload u.moment).load }).restartFeedback c) =
        s.feedbackRead dt rest c f := by
      simp only [State.restartFeedback, State.modCtl_eq, State.modReckon_eq, State.chan_withChan_same,
        State.withChan_withChan]
      rfl
    show State.restartFeedback (State.reactTo _ c (readFeedback f.payload u.moment)) c = _
    rw [State.reactTo_restart, hfirst]
    rfl
  have hnull : ¬ (f.dest = 0x00#8 ∨ f.src = 0x00#8) := not_or.2 ⟨hdest, hsrc⟩
  have hkind : f.kind = kindFeedback := hkind
  have hlen : f.len = 6 := hlen
  rw [exec_classifyDownstreamFrame hline hwait, State.disposeDownstream, if_neg hnull, if_pos hkind]
  simp only [show State.driveAt { s.advance dt with portD := { s.portD with rx := rest } } f.src = some c from hdrive,
    if_pos hlen]
  rw [show State.takeFeedback { s.advance dt with portD := { s.portD with rx := rest } } c f.payload = _ from hread]
  simp only [State.onward, State.forwardUp, State.annotate, State.annotation, List.append_assoc]
  rfl

/-! ## What a read frame does, by the channel's state -/

theorem State.reactTo_of_fault {s : State} {c : Chan} {r : Feedback} (hfault : r.drive = .fault)
    (htakes : (s.ctl c).state.takesDriveFault = true) : s.reactTo c r = s.faulted c .driveFault := by
  rw [State.reactTo, if_pos hfault, if_pos htakes, State.raise_enterFault_eq]

theorem State.reactTo_of_sound {s : State} {c : Chan} {r : Feedback} (hsound : r.drive ≠ .fault) :
    s.reactTo c r = s.confirmations c r := if_neg hsound

/-- The states that await nothing (R168). -/
theorem State.reactTo_of_unmoved {s : State} {c : Chan} {r : Feedback}
    (h : (s.ctl c).state = .tripped ∨ (s.ctl c).state = .fault ∨ (r.drive ≠ .fault
      ∧ ((s.ctl c).state = .parked ∨ (s.ctl c).state = .held ∨ (s.ctl c).state.isTraffic = true
        ∨ (s.ctl c).state = .suspended ∨ (s.ctl c).state = .injected ∨ (s.ctl c).state = .releasingProve))) :
    s.reactTo c r = s := by
  unfold State.reactTo State.confirmations
  cases hst : (s.ctl c).state <;> simp_all [ChanState.takesDriveFault, ChanState.isTraffic]

section
variable (s : State) (dt : Nat) (rest : List Frame) (c : Chan) (f : Frame)

theorem State.feedbackRead_ctl : (s.feedbackRead dt rest c f).ctl c = { s.ctl c with
    record := some (readFeedback f.payload (s.feedbackRead dt rest c f).moment),
    feedback := some ((s.advance dt).ms + (s.hoist c).demandTimeout) } :=
  State.ctl_withChan_same ..

theorem State.feedbackRead_gate : (s.feedbackRead dt rest c f).gate c = s.gate c := State.gate_withChan_same ..

theorem State.feedbackRead_reckon : (s.feedbackRead dt rest c f).reckon c =
    { s.reckon c with load := natAt f.payload 2 2 } :=
  State.reckon_withChan_same ..

end

theorem State.forwardUp_eq (s : State) (f : Frame) : s.forwardUp f = if f.dest = s.supervisor then s else s.passUp f :=
  rfl

end Sys2Proof.Machine
end

section
/-! The disposal of frames from port D (R167, R168): read, reported, or passed on unread. -/

namespace Sys2Proof.Machine

section
variable {s : State} {f : Frame} (hreal : f.dest ≠ 0x00#8 ∧ f.src ≠ 0x00#8)
include hreal

/-- A FEEDBACK frame of a wrong LEN is reported and goes on (R168). -/
theorem State.disposeDownstream_of_badFeedback {c : Chan} (hkind : f.kind = 0x32#8) (hdrive : s.driveAt f.src = some c)
    (hlen : f.payload.length ≠ 6) :
    s.disposeDownstream f = (s.raisePort .badFeedback .d).forwardUp f := by
  have hkind : f.kind = kindFeedback := hkind
  have hlen : ¬ f.len = 6 := hlen
  rw [State.disposeDownstream, if_neg (not_or.2 hreal), if_pos hkind, hdrive]
  exact if_neg hlen

/-- Every frame that is neither a configured drive's FEEDBACK nor the signalling unit's LANDMARK goes on unread
(R167). -/
theorem State.disposeDownstream_of_passing (hfeedback : f.kind ≠ 0x32#8 ∨ s.driveAt f.src = none)
    (hlandmark : f.kind ≠ 0x33#8 ∨ f.src ≠ s.active.shaft.signalling) :
    s.disposeDownstream f = s.forwardUp f := by
  have hunread : ¬ (f.kind = kindLandmark ∧ f.src = s.active.shaft.signalling) := by
    rintro ⟨hkind, hsrc⟩
    exact hlandmark.elim (fun h => h hkind) fun h => h hsrc
  rw [State.disposeDownstream, if_neg (not_or.2 hreal)]
  by_cases hkind : f.kind = kindFeedback
  · have hnone := hfeedback.resolve_left (not_not_intro hkind)
    rw [if_pos hkind, hnone]
  · rw [if_neg hkind, if_neg hunread]

end

/-- A LANDMARK payload that cannot be attributed (R33). -/
theorem State.readLandmark_of_unknown {s : State} {f : Frame} (h : s.attribute f.payload = none) :
    s.readLandmark f = s.unknownLandmark f.payload := by
  simp only [State.readLandmark, h]

theorem State.unknownLandmark_of_four (s : State) {payload : List Byte} (hlen : payload.length = 4) :
    s.unknownLandmark payload = { s with supNotes := { s.supNotes.add SupKind.landmarkUnknown.bit with
      detail := { s.supNotes.detail with landmark := some (0, (byteAt payload 0).toNat) } } } := by
  simp only [State.unknownLandmark, if_pos hlen]
  rfl

theorem chanOf_of_beyond {n : Nat} (h : 3 < n) : chanOf n = none := by
  obtain ⟨k, rfl⟩ : ∃ k, n = k + 4 := ⟨n - 4, by omega⟩
  rfl

theorem landmarkOf_of_beyond {n : Nat} (h : 63 < n) : landmarkOf n = none := dif_neg (by omega)

/-- Settles O35: a frame that confirms nothing is recorded and goes on; every other clause is a branch of the
disposal. -/
theorem downstreamFramesAreReadAndPassedOn : Obligations.DownstreamFramesAreReadAndPassedOn := by
  refine ⟨fun dt s f rest c hwaits hstate => ?_, fun dt s f rest hline hwait => ?_⟩
  · intro v
    have hunmoved : v.reactTo c (readFeedback f.payload v.moment) = v := by
      refine State.reactTo_of_unmoved ?_
      rw [State.feedbackRead_ctl]
      exact hstate
    rw [exec_feedback hwaits, hunmoved]
  · intro u passed real fromDrive
    have hexec {t : State} (h : u.disposeDownstream f = t) : exec (.classifyDownstreamFrame dt) s = .next t :=
      (exec_classifyDownstreamFrame hline hwait dt).trans (congrArg _ h)
    have hlandmark (hreal : real) (hkind : f.kind = 0x33#8) (hsrc : f.src = s.active.shaft.signalling)
        (hnone : u.attribute f.payload = none) : u.disposeDownstream f = (u.unknownLandmark f.payload).forwardUp f := by
      rw [State.disposeDownstream_of_landmark (s := u) hreal hkind hsrc, State.readLandmark_of_unknown hnone]
    refine ⟨fun hnull => hexec (u.disposeDownstream_of_null hnull), fun hreal hkind hfrom hlen => hexec ?_,
      fun hreal hkind hsrc hlen => hexec ?_, fun hreal hkind hsrc hlen hbeyond => hexec ?_,
      fun n c hreal hkind hsrc hlen hnumber hchannel habsent => hexec ?_,
      fun hreal hfeedback hother => hexec ?_⟩
    · cases hdrive : u.driveAt f.src with
      | none =>
        rcases (u.driveAt_eq_none_iff f.src).1 hdrive with hempty | hno
        · exact absurd (hfrom.1.symm.trans hempty) (by decide)
        · exact absurd hfrom.2.choose_spec (hno _)
      | some c => exact State.disposeDownstream_of_badFeedback (s := u) hreal hkind hdrive hlen
    · have hnone : u.attribute f.payload = none := by rw [State.attribute, if_neg hlen]
      rw [hlandmark hreal hkind hsrc hnone, State.unknownLandmark]
      simp only [if_neg hlen]
      rfl
    · have hnone : u.attribute f.payload = none := by
        rw [State.attribute, if_pos hlen]
        rcases hbeyond with h | h
        · rw [landmarkOf_of_beyond h]
          cases chanOf (byteAt f.payload 1).toNat <;> rfl
        · rw [chanOf_of_beyond h]
      rw [hlandmark hreal hkind hsrc hnone, u.unknownLandmark_of_four hlen]
      rfl
    · have hnone : u.attribute f.payload = none := by
        rw [u.attribute_of_named hlen hnumber hchannel]
        refine if_neg fun ⟨hpresent, hlane⟩ => ?_
        rcases habsent with h | h
        · exact absurd (hpresent.symm.trans h) (by decide)
        · exact h hlane
      have hvalue : (byteAt f.payload 0).toNat = n.val := by
        rw [hnumber, BitVec.toNat_ofNat]
        exact Nat.mod_eq_of_lt (by omega)
      rw [hlandmark hreal hkind hsrc hnone, u.unknownLandmark_of_four hlen, hvalue]
      rfl
    · refine State.disposeDownstream_of_passing (s := u) hreal (hfeedback.imp_right fun h => ?_) hother
      rw [State.driveAt_eq_none_iff]
      by_cases hfilled : s.activeFilled = true
      · exact .inr fun c hc => h ⟨hfilled, c, hc⟩
      · exact .inl (Bool.eq_false_iff.2 hfilled)

end Sys2Proof.Machine
end


section
/-! What a FEEDBACK frame confirms, and what takes a channel to FAULT (R91, R93, R94, R112, R136, R137, R141). -/

namespace Sys2Proof.Machine

/-- A stop completes at confirmed rest (R91). -/
theorem State.tryStop_of_rest {s : State} {c : Chan} {d : Destination} (hstate : (s.ctl c).state = .stopping d)
    (hrest : s.rest c = true) : s.tryStop c = s.withCtl c { s.ctl c with state := d.state, watch := none } := by
  rw [State.tryStop_eq s c hstate]
  exact if_pos hrest

theorem State.tryStop_of_not {s : State} {c : Chan} {d : Destination} (hstate : (s.ctl c).state = .stopping d)
    (hrest : ¬ s.rest c = true) : s.tryStop c = s := by
  rw [State.tryStop_eq s c hstate]
  exact if_neg hrest

/-- A brake report SET confirms PARKED (R137). -/
theorem State.raise_enterParked (s : State) (c : Chan) :
    (s.enterParked c).raise c .parked =
      (s.withCtlNote c { s.ctl c with state := .parked, brake := none, watch := none } .parked).forcing
        fun d => d == c := by
  rw [State.enterParked_eq]
  show ((s.withCtl c _).raise c .parked).forcing _ = _
  rw [State.raise_eq, State.withCtl, State.chan_withChan_same, State.withChan_withChan]
  rfl

/-- A brake report RELEASED ends RELEASING in HELD (R141). -/
theorem State.enterReleased_eq (s : State) (c : Chan) :
    ((s.modCtl c fun k => { k with brake := none }).enter c .held).raise c .released =
      s.withCtlNote c { s.ctl c with state := .held, brake := none, watch := none } .released := by
  simp only [State.modCtl_eq, State.enter_eq, State.raise_eq, State.chan_withChan_same, State.withChan_withChan,
    State.watchFor_withChan]
  rfl

/-- Rest at the reading of a frame, in its own terms (R84). -/
theorem State.feedbackRead_rest_iff (s : State) (dt : Nat) (rest : List Frame) (c : Chan) (f : Frame) :
    (s.feedbackRead dt rest c f).rest c = true ↔
      (s.gate c).out = 0
      ∧ (s.feedbackRead dt rest c f).moment.later ((s.feedbackRead dt rest c f).ctl c).zeroMoment = true
      ∧ (intAt f.payload 0 2).natAbs ≤ (s.hoist c).standstill := by
  rw [State.rest_iff, State.feedbackRead_gate, State.feedbackRead_ctl]
  refine and_congr_right fun _ => ⟨?_, fun ⟨hlater, hslow⟩ => ⟨_, rfl, hlater, hslow⟩⟩
  rintro ⟨r, hr, hlater, hslow⟩
  cases hr
  exact ⟨hlater, hslow⟩

/-- Settles O36: the reaction of each awaiting state, with its confirmation given and not given. -/
theorem feedbackConfirmsWhatTheChannelAwaits : Obligations.FeedbackConfirmsWhatTheChannelAwaits := by
  intro dt s f rest c hwaits hsound v k brake goesOn atRest arrives dwell
  have hgoes {w : State} (h : v.confirmations c (readFeedback f.payload v.moment) = w) : goesOn w := by
    refine (exec_feedback hwaits dt).trans ?_
    rw [State.reactTo_of_sound hsound]
    exact congrArg (fun t : State => Host.Outcome.next (t.onward c f)) h
  have hrest : v.rest c = true ↔ atRest := s.feedbackRead_rest_iff dt rest c f
  have harrives (i : Fin 256) : v.Arrives c i ↔ arrives i := by
    have hdepth : (v.reckon c).depth = (s.reckon c).depth := by rw [State.feedbackRead_reckon]
    refine ⟨fun ⟨h1, h2, h3, h4, h5, h6⟩ => ⟨h1, h2, h3, h4, hrest.1 h6, ?_⟩,
      fun ⟨h1, h2, h3, h4, h6, h5⟩ => ⟨h1, h2, h3, h4, ?_, hrest.2 h6⟩⟩
    · rw [hdepth] at h5
      exact h5
    · rw [hdepth]
      exact h5
  have hdwell (i : Fin 256) : v.arrivalDwell c i = dwell i := rfl
  have hconfirm {st : ChanState} (h : k.state = st) : (v.ctl c).state = st := h
  have hlist (h : k.state = .list) : v.confirmations c (readFeedback f.payload v.moment) = v.tryArrive c := by
    rw [State.confirmations, hconfirm h]
  refine ⟨fun d hst hat => hgoes ?_, fun d hst hnot => hgoes ?_, fun hst hat => hgoes ?_, fun hst hnot => hgoes ?_,
    fun hst hset => hgoes ?_, fun hst hset => hgoes ?_, fun hst hfree => hgoes ?_, fun hst hfree => hgoes ?_,
    fun i hi hpos => hgoes ?_, fun i hi hzero => ?_, fun hst hnone => hgoes ?_⟩
  · rw [State.confirmations, hconfirm hst]
    exact State.tryStop_of_rest hst (hrest.2 hat)
  · rw [State.confirmations, hconfirm hst]
    exact State.tryStop_of_not hst (mt hrest.1 hnot)
  · rw [State.confirmations, hconfirm hst, ← State.enterParkingSet_eq]
    exact if_pos ⟨hst, hrest.2 hat⟩
  · rw [State.confirmations, hconfirm hst]
    exact if_neg fun h => hnot (hrest.1 h.2)
  · rw [State.confirmations, hconfirm hst, ← State.raise_enterParked]
    exact if_pos hset
  · rw [State.confirmations, hconfirm hst]
    exact if_neg hset
  · rw [State.confirmations, hconfirm hst, ← State.enterReleased_eq]
    exact if_pos hfree
  · rw [State.confirmations, hconfirm hst]
    exact if_neg hfree
  · rw [hlist hi.1, ((harrives i).2 hi).tryArrive_eq, State.arrive_of_dwell (by rw [hdwell]; exact hpos), hdwell]
  · refine (v.completes_complete c i).imp fun w hw => hgoes ?_
    rw [hlist hi.1, ((harrives i).2 hi).tryArrive_eq, State.arrive_of_zero (by rw [hdwell]; exact hzero), hw]
  · rw [hlist hst]
    exact State.tryArrive_of_not fun i => mt (harrives i).1 (hnone i)

theorem ChanState.takesDriveFault_iff (st : ChanState) :
    st.takesDriveFault = true ↔ st ≠ .unconfigured ∧ st ≠ .tripped ∧ st ≠ .fault := by
  cases st <;> simp [ChanState.takesDriveFault]

theorem ChanState.confirming_iff (st : ChanState) :
    st.confirming = true ↔ st = .parkingRamp ∨ st = .parkingSet ∨ st = .releasingOpen := by
  cases st <;> simp [ChanState.confirming]

/-- Settles O37: the three causes, each with its notice raised before the entry. -/
theorem faultsStopTheChannelOnItsBrakes : Obligations.FaultsStopTheChannelOnItsBrakes := by
  refine ⟨fun dt s f rest c hwaits hfault hconfigured htripped hnot => ?_,
    fun dt s c w hline hwatch hwatched hreached => ?_, fun dt e s c hline htimer hstate hreached => ?_⟩
  · have htakes : ((s.feedbackRead dt rest c f).ctl c).state.takesDriveFault = true := by
      rw [State.feedbackRead_ctl]
      exact (ChanState.takesDriveFault_iff _).2 ⟨hconfigured, htripped, hnot⟩
    rw [exec_feedback hwaits, State.reactTo_of_fault hfault htakes]
  · have hawake : (s.advance dt).awake = true := State.awake_of_ne hline
    have hdue : (s.advance dt).stallDue c = true := by
      simp only [State.stallDue, State.ctl_advance, hwatch]
      exact decide_eq_true hreached
    show execStallWatchExpiry dt c s = _
    simp only [execStallWatchExpiry, hawake, hdue, State.ctl_advance, hwatched, Bool.and_self, if_true,
      State.raise_enterFault_eq]
  · have hawake : (s.advance dt).awake = true := State.awake_of_ne hline
    have hdue : (s.advance dt).due (s.ctl c).brake = true := State.due_of_reached htimer hreached
    show execBrakeConfirmExpiry dt c s = _
    simp only [execBrakeConfirmExpiry, hawake, hdue, State.ctl_advance, (ChanState.confirming_iff _).2 hstate,
      Bool.and_self, if_true, State.raise_enterFault_eq]

end Sys2Proof.Machine
end

section
/-! The expiries of the demand, feedback, prove, dwell and duration timers (R82, R87, R114, R130, R140), and the trip
line (R147, R148, R150). -/

namespace Sys2Proof.Machine

theorem State.expireDemand_eq (s : State) (c : Chan) :
    (((s.modCtl c fun k => { k with demand := none }).restartEmission c).enter c .trafficLapsed).raise c .demandLost =
      s.withCtlNote c { s.ctl c with
        state := .trafficLapsed, demand := none, emission := some (s.ms + (s.hoist c).emission),
        watch := s.watchIn c .trafficLapsed } .demandLost := by
  simp only [State.restartEmission, State.modCtl_eq, State.enter_eq, State.raise_eq, State.chan_withChan_same,
    State.withChan_withChan, State.watchFor_withChan]
  rfl

theorem State.expireFeedback_eq (s : State) (c : Chan) :
    (s.raise c .feedbackLost).restartFeedback c =
      s.withCtlNote c { s.ctl c with feedback := some (s.ms + (s.hoist c).demandTimeout) } .feedbackLost := by
  simp only [State.restartFeedback, State.modCtl_eq, State.raise_eq, State.chan_withChan_same, State.withChan_withChan]
  rfl

/-- Settles O38: each expiry when its tick has come, and nothing before. -/
theorem channelTimersExpire : Obligations.ChannelTimersExpire := by
  intro dt e s c hline u reached
  have hawake : u.awake = true := State.awake_of_ne hline
  have hdue {timer : Option Nat} (h : timer = some e) (hr : reached) : u.due timer = true := State.due_of_reached h hr
  have hearly {timer : Option Nat} (h : timer = some e) (hr : ¬ reached) : u.due timer = false :=
    State.due_of_early h hr
  refine ⟨fun htimer hst hr => ?_, fun htimer hr => ?_, fun htimer hst hr => ?_, fun htimer hr => ?_,
    fun htimer hr => ?_, fun htimer hr => ?_⟩
  · rw [← State.expireDemand_eq]
    have hall : (u.awake && u.due (u.ctl c).demand && (u.ctl c).state == .trafficLive) = true := by
      rw [hawake, hdue (timer := (u.ctl c).demand) htimer hr, show (u.ctl c).state = .trafficLive from hst]
      rfl
    exact congrArg _ (if_pos hall)
  · rw [← State.expireFeedback_eq]
    have hall : (u.awake && u.due (u.ctl c).feedback) = true := by
      rw [hawake, hdue (timer := (u.ctl c).feedback) htimer hr]
      rfl
    exact congrArg _ (if_pos hall)
  · rw [← State.enterOpen_eq]
    have hall : (u.awake && u.due (u.ctl c).prove && (u.ctl c).state == .releasingProve) = true := by
      rw [hawake, hdue (timer := (u.ctl c).prove) htimer hr, show (u.ctl c).state = .releasingProve from hst]
      rfl
    exact congrArg _ (if_pos hall)
  · have hnot : ¬ (u.awake && u.due (u.ctl c).demand && (u.ctl c).state == .trafficLive) = true := by
      rw [hearly (timer := (u.ctl c).demand) htimer hr]
      simp
    exact congrArg _ (if_neg hnot)
  · have hnot : ¬ (u.awake && u.due (u.ctl c).feedback) = true := by
      rw [hearly (timer := (u.ctl c).feedback) htimer hr]
      simp
    exact congrArg _ (if_neg hnot)
  · have hnot : ¬ (u.awake && u.due (u.ctl c).prove && (u.ctl c).state == .releasingProve) = true := by
      rw [hearly (timer := (u.ctl c).prove) htimer hr]
      simp
    exact congrArg _ (if_neg hnot)

/-- Settles O39: the completion of the descriptor that dwells. -/
theorem dwellExpiryCompletesTheDescriptor : Obligations.DwellExpiryCompletesTheDescriptor := by
  intro dt e s c i hline htimer hreached hlist hphase hcurrent u
  have hall : (u.awake && u.due (u.ctl c).dwell && (u.ctl c).dwelling) = true := by
    rw [show u.awake = true from State.awake_of_ne hline,
      show u.due (u.ctl c).dwell = true from State.due_of_reached htimer hreached, Controller.dwelling,
      show (u.ctl c).state = .list from hlist, show (u.ctl c).listPhase = .dwell from hphase]
    rfl
  have hexec : exec (.dwellExpiry dt c) s = .next (u.complete c i) := by
    show execDwellExpiry dt c s = _
    simp only [execDwellExpiry]
    rw [show (s.advance dt).ctl c = u.ctl c from rfl, hall, show (u.ctl c).current = some i from hcurrent]
  exact (u.completes_complete c i).imp fun w hw => by rw [hexec, hw]

theorem exec_durationExpiry {s : State} {c : Chan} {e dt : Nat} (hline : s.resetLine ≠ .fullReset)
    (htimer : (s.ctl c).duration = some e) (hreached : e ≤ (s.now + dt) / 1000) (hstate : (s.ctl c).state = .injected)
    {saved : Saved} (hslot : (s.ctl c).slot = some saved) :
    exec (.durationExpiry dt c) s = .next
      ((((s.advance dt).raise c .responseDone).modCtl c Controller.dropInjection).returnTo c saved) := by
  let u := s.advance dt
  have hall : (u.awake && u.due (u.ctl c).duration && (u.ctl c).state == .injected) = true := by
    rw [show u.awake = true from State.awake_of_ne hline,
      show u.due (u.ctl c).duration = true from State.due_of_reached htimer hreached,
      show (u.ctl c).state = .injected from hstate]
    rfl
  have hslot : (u.ctl c).slot = some saved := hslot
  have hend : u.endInjection c = ((u.raise c .responseDone).modCtl c Controller.dropInjection).returnTo c saved := by
    rw [State.endInjection, hslot]
  rw [← hend]
  exact congrArg _ (if_pos hall)

/-- The injection at its end, before the return (R130). -/
theorem State.endedInjection_eq (s : State) (c : Chan) :
    (s.raise c .responseDone).modCtl c Controller.dropInjection =
      s.withCtlNote c { s.ctl c with slot := none, duration := none } .responseDone := by
  simp only [State.modCtl_eq, State.raise_eq, State.chan_withChan_same, State.withChan_withChan]
  rfl

theorem State.withCtlNote_stoppedCtl (s : State) (c : Chan) (k : Controller) (n : ChanKind) :
    (s.withCtlNote c k n).stoppedCtl c = (s.withCtl c k).stoppedCtl c :=
  State.stoppedCtl_congr (by rw [State.ctl_withCtl_same]; exact State.ctl_withChan_same ..)
    (by rw [State.gate_withCtl]; exact State.gate_withChan_same ..) rfl rfl

/-- An entry to STOPPING with destination SUSPENDED reads the record and the gate of its own channel (R89). -/
theorem State.suspendedCtl_withChan (s : State) (c : Chan) (x : Channel) (i : Fin 256) (carried : Option Nat) :
    (s.withChan c x).suspendedCtl c i carried =
      { x.ctl with
        state := if s.restFor c x then .suspended else .stopping .suspended, current := some i,
        listPhase := .approach, dwell := none, carried := carried, emission := s.emissionFor c x,
        watch := if s.restFor c x then none else s.watchFor c x (.stopping .suspended) } := by
  simp only [State.suspendedCtl, State.rest_eq, State.emissionOn_eq, State.watchIn_eq, State.chan_withChan_same,
    State.ctl_withChan_same]
  rfl

/-- Settles O40: the return by what the slot held. -/
theorem durationExpiryReturnsTheChannel : Obligations.DurationExpiryReturnsTheChannel := by
  intro dt e s c hline htimer hreached hstate u done ends
  have hexec {saved : Saved} (hslot : (s.ctl c).slot = some saved) {t : State}
      (h : ((u.raise c .responseDone).modCtl c Controller.dropInjection).returnTo c saved = t) : ends t :=
    (exec_durationExpiry hline htimer hreached hstate hslot).trans (congrArg _ h)
  refine ⟨fun hslot => hexec hslot ?_, fun i left hslot => hexec hslot ?_, fun hslot => hexec hslot ?_,
    fun i left hslot => hexec hslot ?_⟩
  · rw [State.endedInjection_eq, State.returnTo, State.enter_eq, State.withCtlNote, State.chan_withChan_same,
      State.withChan_withChan]
    rfl
  · rw [State.endedInjection_eq, State.returnTo, State.enter_eq, State.modCtl_eq, State.withCtlNote,
      State.chan_withChan_same, State.withChan_withChan, State.chan_withChan_same, State.withChan_withChan]
    rfl
  · rw [State.endedInjection_eq, State.returnTo, State.stopToHeld_eq, State.withCtlNote_stoppedCtl,
      State.stoppedCtl_withCtl, State.withCtl, State.withCtlNote, State.chan_withChan_same, State.withChan_withChan]
    rfl
  · have hcurrent (v : State) : ((v.modCtl c fun k => k.resume i left).ctl c).current = some i := by
      rw [State.ctl_modCtl_same]
      rfl
    rw [State.endedInjection_eq, State.returnTo, State.stopToSuspended_eq _ _ (hcurrent _), State.ctl_modCtl_same,
      State.modCtl_eq, State.withCtlNote, State.chan_withChan_same, State.withChan_withChan,
      State.suspendedCtl_withChan, State.withCtl, State.withChan_withChan, State.chan_withChan_same]
    rfl

/-- Settles O41: the line's level is no part of what an assertion event does to the channels. -/
theorem tripLineTakesEveryChannel : Obligations.TripLineTakesEveryChannel := by
  intro dt s u
  refine ⟨fun hnegated hline => ?_, fun hasserted hline => ?_, fun hline => ?_, fun hline => ?_⟩
  · have hawake : u.awake = true := State.awake_of_ne hline
    have hlevel : ¬ u.tripLine = true := by rw [show u.tripLine = false from hnegated]; decide
    show Host.Outcome.next (if u.tripLine = true then u
      else if u.awake = true then ({ u with tripLine := true } : State).trip else { u with tripLine := true }) = _
    rw [if_neg hlevel, if_pos hawake, State.trip_eq]
    rfl
  · have hawake : u.awake = true := State.awake_of_ne hline
    have hlevel : ¬ u.tripLine = false := by rw [show u.tripLine = true from hasserted]; decide
    show Host.Outcome.next (if u.tripLine = false then u
      else if u.awake = true then ({ u with tripLine := false } : State).raiseSup .tripNegated
      else { u with tripLine := false }) = _
    rw [if_neg hlevel, if_pos hawake]
    rfl
  · have hasleep : ¬ u.awake = true := by simp [State.awake, u, hline]
    show Host.Outcome.next (if u.tripLine = true then u
      else if u.awake = true then ({ u with tripLine := true } : State).trip else { u with tripLine := true }) = _
    rw [if_neg hasleep]
    by_cases hlevel : u.tripLine = true
    · rw [if_pos hlevel, ← hlevel]
    · rw [if_neg hlevel]
  · have hasleep : ¬ u.awake = true := by simp [State.awake, u, hline]
    show Host.Outcome.next (if u.tripLine = false then u
      else if u.awake = true then ({ u with tripLine := false } : State).raiseSup .tripNegated
      else { u with tripLine := false }) = _
    rw [if_neg hasleep]
    by_cases hlevel : u.tripLine = false
    · rw [if_pos hlevel, ← hlevel]
    · rw [if_neg hlevel]

end Sys2Proof.Machine
end


section
/-! STATUS (R180, section 8.7): the fields of the reply read back from its bytes. -/

namespace Sys2Proof.Machine

/-! ## Two's complement fields -/

/-- A number of `k` bytes in two's complement reads back (section 8.7). -/
theorem bytesInt_intBytes {k : Nat} {i : Int} (hlow : -((256 ^ (k + 1) / 2 : Nat) : Int) ≤ i)
    (hhigh : i < ((256 ^ (k + 1) / 2 : Nat) : Int)) : bytesInt (intBytes (k + 1) i) = i := by
  have hhalf : 256 ^ (k + 1) / 2 + 256 ^ (k + 1) / 2 = 256 ^ (k + 1) := by
    rw [Nat.pow_succ]; omega
  have hbytes : bytesNat (intBytes (k + 1) i) = (i % ((256 ^ (k + 1) : Nat) : Int)).toNat := by
    refine bytesNat_natBytes_of_lt ?_
    have := Int.emod_lt_of_pos i (show (0 : Int) < ((256 ^ (k + 1) : Nat) : Int) by positivity)
    omega
  rw [bytesInt, hbytes, intBytes_length]
  generalize 256 ^ (k + 1) = m at *
  rcases lt_or_ge i 0 with hneg | hnonneg
  · have hmod : i % (m : Int) = i + m := by
      rw [← Int.add_emod_right, Int.emod_eq_of_lt (by omega) (by omega)]
    rw [hmod, if_neg (by omega)]
    omega
  · rw [Int.emod_eq_of_lt hnonneg (by omega), if_pos (by omega)]
    omega

theorem natAt_zero {k n : Nat} (hn : n < 256 ^ k) (b : List Byte) : natAt (natBytes k n ++ b) 0 k = n :=
  natAt_here [] b rfl hn

theorem intAt_zero {k : Nat} {i : Int} (hlow : -((256 ^ (k + 1) / 2 : Nat) : Int) ≤ i)
    (hhigh : i < ((256 ^ (k + 1) / 2 : Nat) : Int)) (b : List Byte) :
    intAt (intBytes (k + 1) i ++ b) 0 (k + 1) = i := by
  have htake : bytesAt (intBytes (k + 1) i ++ b) 0 (k + 1) = intBytes (k + 1) i := by
    rw [bytesAt, List.drop_zero, List.take_append_of_le_length (by rw [intBytes_length]),
      List.take_of_length_le (by rw [intBytes_length])]
  rw [intAt, htake, bytesInt_intBytes hlow hhigh]

theorem intAt_cons (x : Byte) (b : List Byte) (off j : Nat) : intAt (x :: b) (off + 1) j = intAt b off j := rfl

theorem intAt_skip (k n : Nat) (b : List Byte) {off : Nat} (j : Nat) (h : k ≤ off) :
    intAt (natBytes k n ++ b) off j = intAt b (off - k) j := by
  simp only [intAt, bytesAt]
  rw [List.drop_append, List.drop_of_length_le (by rw [natBytes_length]; exact h), natBytes_length, List.nil_append]

/-- A list read past a prefix. -/
theorem drop_prefix {pre : List Byte} {o : Nat} (hpre : pre.length = o) (l : List Byte) (j : Nat) :
    (pre ++ l).drop (o + j) = l.drop j := by
  subst hpre
  rw [List.drop_append, List.drop_of_length_le (by omega), List.nil_append, Nat.add_sub_cancel_left]

theorem natAt_prefix {pre : List Byte} {o : Nat} (hpre : pre.length = o) (l : List Byte) (j k : Nat) :
    natAt (pre ++ l) (o + j) k = natAt l j k := by
  rw [natAt, bytesAt, drop_prefix hpre]
  rfl

theorem intAt_prefix {pre : List Byte} {o : Nat} (hpre : pre.length = o) (l : List Byte) (j k : Nat) :
    intAt (pre ++ l) (o + j) k = intAt l j k := by
  rw [intAt, bytesAt, drop_prefix hpre]
  rfl

theorem byteAt_prefix {pre : List Byte} {o : Nat} (hpre : pre.length = o) (l : List Byte) (j : Nat) :
    byteAt (pre ++ l) (o + j) = byteAt l j := by
  subst hpre
  rw [byteAt, List.getD_append_right _ _ _ _ (by omega), Nat.add_sub_cancel_left]
  rfl

/-! ## Flags -/

/-- The six supervisor flags (section 8.7). -/
theorem flagsByte_six (b0 b1 b2 b3 b4 b5 : Bool) :
    (flagsByte [b0, b1, b2, b3, b4, b5]).getLsbD 0 = b0 ∧ (flagsByte [b0, b1, b2, b3, b4, b5]).getLsbD 1 = b1
    ∧ (flagsByte [b0, b1, b2, b3, b4, b5]).getLsbD 2 = b2 ∧ (flagsByte [b0, b1, b2, b3, b4, b5]).getLsbD 3 = b3
    ∧ (flagsByte [b0, b1, b2, b3, b4, b5]).getLsbD 4 = b4 ∧ (flagsByte [b0, b1, b2, b3, b4, b5]).getLsbD 5 = b5 := by
  revert b0 b1 b2 b3 b4 b5
  decide

/-- The quality's two bits and the three marks of a channel (section 8.7). -/
theorem flagsByte_channel (q : Quality) (b2 b3 b4 : Bool) :
    (flagsByte [decide (q.code % 2 = 1), decide (2 ≤ q.code), b2, b3, b4]).toNat % 4 = q.code
    ∧ (flagsByte [decide (q.code % 2 = 1), decide (2 ≤ q.code), b2, b3, b4]).getLsbD 2 = b2
    ∧ (flagsByte [decide (q.code % 2 = 1), decide (2 ≤ q.code), b2, b3, b4]).getLsbD 3 = b3
    ∧ (flagsByte [decide (q.code % 2 = 1), decide (2 ≤ q.code), b2, b3, b4]).getLsbD 4 = b4 := by
  cases q <;> revert b2 b3 b4 <;> decide

/-! ## A channel's bytes -/

theorem State.statusChannel_length (s : State) (c : Chan) : (s.statusChannel c).length = 11 := by
  simp [State.statusChannel]

/-- The bytes of a channel, field after field. -/
theorem State.statusChannel_append (s : State) (c : Chan) (post : List Byte) :
    s.statusChannel c ++ post =
      (s.ctl c).state.byte ::
        flagsByte [decide ((s.reckon c).quality.code % 2 = 1), decide (2 ≤ (s.reckon c).quality.code),
          (s.ctl c).current.isSome, (s.ctl c).slot.isSome, (s.reckon c).lastNumber.isSome] ::
        (natBytes 3 ((s.reckon c).depth / 1000) ++ (intBytes 2 ((s.gate c).out.tdiv 1000)
          ++ (intBytes 2 (max (-32768) (min 32767 ((s.reckon c).lastError.getD 0)))
            ++ (natBytes 1 (((s.reckon c).lastNumber.map Fin.val).getD 0)
              ++ (natBytes 1 (((s.ctl c).current.map Fin.val).getD 0) ++ post))))) := by
  simp only [State.statusChannel, List.append_assoc]
  rfl

theorem Option.map_val_getD_lt {m : Nat} (hm : 0 < m) (x : Option (Fin m)) : (x.map Fin.val).getD 0 < m := by
  cases x with
  | none => exact hm
  | some i => exact i.isLt

/-- An output within caps of at most 32,767 mm/s fits two bytes in mm/s. -/
theorem Gate.Sound.tdiv_bounds {g : Gate} (h : g.Sound) : -32767 ≤ g.out.tdiv 1000 ∧ g.out.tdiv 1000 ≤ 32767 := by
  obtain ⟨hdown, hup, hhigh, hlow⟩ := h
  rcases le_total 0 g.out with hpos | hneg
  · rw [Int.tdiv_eq_ediv_of_nonneg hpos]
    omega
  · rw [← neg_neg g.out, Int.neg_tdiv, Int.tdiv_eq_ediv_of_nonneg (by omega)]
    omega

/-- What a channel's fields read, wherever its bytes stand. -/
theorem State.statusChannel_reads {s : State} {c : Chan} (hreckon : (s.reckon c).Sound) (hgate : (s.gate c).Sound)
    {pre : List Byte} {o : Nat} (hpre : pre.length = o) (post : List Byte) :
    let d := pre ++ (s.statusChannel c ++ post)
    byteAt d o = (s.ctl c).state.byte
    ∧ (byteAt d (o + 1)).toNat % 4 = (s.reckon c).quality.code
    ∧ (byteAt d (o + 1)).getLsbD 2 = (s.ctl c).current.isSome
    ∧ (byteAt d (o + 1)).getLsbD 3 = (s.ctl c).slot.isSome
    ∧ (byteAt d (o + 1)).getLsbD 4 = (s.reckon c).lastNumber.isSome
    ∧ natAt d (o + 2) 3 = (s.reckon c).depth / 1000
    ∧ intAt d (o + 5) 2 = (s.gate c).out.tdiv 1000
    ∧ intAt d (o + 7) 2 = max (-32768) (min 32767 ((s.reckon c).lastError.getD 0))
    ∧ natAt d (o + 9) 1 = ((s.reckon c).lastNumber.map Fin.val).getD 0
    ∧ natAt d (o + 10) 1 = ((s.ctl c).current.map Fin.val).getD 0 := by
  intro d
  obtain ⟨hquality, hcurrent, hslot, herror⟩ := flagsByte_channel (s.reckon c).quality (s.ctl c).current.isSome
    (s.ctl c).slot.isSome (s.reckon c).lastNumber.isSome
  have hfirst (l : List Byte) : byteAt (pre ++ l) o = byteAt l 0 := byteAt_prefix hpre l 0
  have hdepth : (s.reckon c).depth / 1000 < 256 ^ 3 := by have := hreckon.depth; omega
  have hnumber := Option.map_val_getD_lt (by decide) (s.reckon c).lastNumber
  have hindex := Option.map_val_getD_lt (by decide) (s.ctl c).current
  obtain ⟨hlow, hhigh⟩ := hgate.tdiv_bounds
  simp only [d, State.statusChannel_append, hfirst, byteAt_prefix hpre, natAt_prefix hpre, intAt_prefix hpre]
  refine ⟨rfl, hquality, hcurrent, hslot, herror, ?_, ?_, ?_, ?_, ?_⟩
  · exact natAt_zero hdepth _
  · rw [intAt_cons, intAt_cons, intAt_skip _ _ _ _ (by decide)]
    exact intAt_zero (by omega) (by omega) _
  · rw [intAt_cons, intAt_cons, intAt_skip _ _ _ _ (by decide), intBytes, intAt_skip _ _ _ _ (by decide)]
    exact intAt_zero (by omega) (by omega) _
  · rw [natAt_cons, natAt_cons, natAt_skip _ _ _ _ (by decide), intBytes, natAt_skip _ _ _ _ (by decide), intBytes,
      natAt_skip _ _ _ _ (by decide)]
    exact natAt_zero (by omega) _
  · rw [natAt_cons, natAt_cons, natAt_skip _ _ _ _ (by decide), intBytes, natAt_skip _ _ _ _ (by decide), intBytes,
      natAt_skip _ _ _ _ (by decide), natAt_skip _ _ _ _ (by decide)]
    exact natAt_zero (by omega) _

/-- The part of STATUS's data before a channel's bytes. -/
def State.statusBefore (s : State) : Chan → List Byte
  | .c0 => [s.statusFlags, s.supervisor]
  | .c1 => [s.statusFlags, s.supervisor] ++ s.statusChannel .c0
  | .c2 => [s.statusFlags, s.supervisor] ++ s.statusChannel .c0 ++ s.statusChannel .c1
  | .c3 => [s.statusFlags, s.supervisor] ++ s.statusChannel .c0 ++ s.statusChannel .c1 ++ s.statusChannel .c2

/-- Each channel's bytes stand at their place in STATUS's data. -/
theorem State.statusData_split (s : State) (c : Chan) :
    ∃ post, s.statusData = s.statusBefore c ++ (s.statusChannel c ++ post) := by
  cases c
  case c0 => exact ⟨s.statusChannel .c1 ++ (s.statusChannel .c2 ++ s.statusChannel .c3), by
    simp only [State.statusData, State.statusBefore, List.append_assoc]⟩
  case c1 => exact ⟨s.statusChannel .c2 ++ s.statusChannel .c3, by
    simp only [State.statusData, State.statusBefore, List.append_assoc]⟩
  case c2 => exact ⟨s.statusChannel .c3, by
    simp only [State.statusData, State.statusBefore, List.append_assoc]⟩
  case c3 => exact ⟨[], by
    simp only [State.statusData, State.statusBefore, List.append_assoc, List.append_nil]⟩

theorem State.statusBefore_length (s : State) (c : Chan) : (s.statusBefore c).length = 2 + 11 * chanNumber c := by
  cases c <;> simp [State.statusBefore, State.statusChannel_length, chanNumber]

/-- Settles O42: the reply's data is STATUS's, and every field reads back from its place. -/
theorem statusReportsThePart : Obligations.StatusReportsThePart := by
  intro dt s f rest htakes hf hreckon hgates
  have hflags := flagsByte_six s.freeze s.tripLine false s.shadowDiffers (!s.portU.live) (!s.portD.live)
  obtain ⟨h0, h1, h2, h3, h4, h5⟩ := hflags
  refine ⟨s.statusData, ?_, ?_, h0, h1, h2, h3, h4, h5, rfl, fun c => ?_⟩
  · have hrule : statusRule (s.taken dt rest).reserving f = ⟨(s.taken dt rest).reserving, .ok, s.statusData⟩ := rfl
    exact congrArg _ (htakes.serve_replied dt (mine := hasCode codeStatus) (hasCode_of_payload hf)
      (commonCheck_plain hf (by decide)) (htakes.taken_line dt) hrule)
  · simp [State.statusData, State.statusChannel_length]
  · intro o k r
    obtain ⟨post, hsplit⟩ := s.statusData_split c
    rw [hsplit]
    exact State.statusChannel_reads (hreckon c) (hgates c) (s.statusBefore_length c) post

end Sys2Proof.Machine
end

section
/-! FETCH_NOTICES (R183): the source that a fetch serves is the one its search finds. -/

namespace Sys2Proof.Machine

/-- A search of the sources finds the one that fits before which none does. -/
theorem find?_allSources {p : SourceId → Bool} {x : SourceId} (hfits : p x = true)
    (hfirst : ∀ y : SourceId, y.rank < x.rank → p y = false) : allSources.find? p = some x := by
  have hbefore (y : SourceId) (h : y.rank < x.rank) : ¬ p y = true := by rw [hfirst y h]; decide
  have h0 := hbefore .supervisor
  have h1 := hbefore (.channel .c0)
  have h2 := hbefore (.channel .c1)
  have h3 := hbefore (.channel .c2)
  rcases x with _ | (_ | _ | _ | _) <;> simp_all [allSources, allChans, SourceId.rank, chanNumber]

/-! ## Classes -/

/-- The highest class of a list of kinds, some of them pending. -/
theorem le_foldl_class {κ : Type} (has : κ → Bool) (cls : κ → Nat) (l : List κ) (m : Nat) :
    m ≤ l.foldl (fun m k => if has k then max m (cls k) else m) m
    ∧ ∀ k ∈ l, has k = true → cls k ≤ l.foldl (fun m k => if has k then max m (cls k) else m) m := by
  induction l generalizing m with
  | nil => exact ⟨le_refl m, fun k hk => absurd hk List.not_mem_nil⟩
  | cons x l ih =>
    obtain ⟨hstart, hpending⟩ := ih (if has x then max m (cls x) else m)
    rw [List.foldl_cons]
    refine ⟨le_trans ?_ hstart, fun k hk hhas => ?_⟩
    · split <;> omega
    · rcases List.mem_cons.1 hk with rfl | hk
      · refine le_trans ?_ hstart
        rw [if_pos hhas]
        exact le_max_right ..
      · exact hpending k hk hhas

theorem foldl_class_of_none {κ : Type} {has : κ → Bool} (hnone : ∀ k, has k = false) (cls : κ → Nat) (l : List κ) :
    l.foldl (fun m k => if has k then max m (cls k) else m) 0 = 0 := by
  induction l with
  | nil => rfl
  | cons x l ih => rw [List.foldl_cons, hnone, if_neg Bool.false_ne_true, ih]

/-- A source with a kind pending has a class above 0 (R182). -/
theorem chanClass_pos {n : Source 18} (h : n.pending ≠ 0) : 0 < chanClass n := by
  have hbits : ∀ i < 18, ∃ k ∈ chanKinds, k.bit = i ∧ 0 < k.cls := by decide
  obtain ⟨i, hi, hbit⟩ : ∃ i < 18, n.pending.getLsbD i = true := by
    by_contra hnone
    push Not at hnone
    exact h (BitVec.eq_of_getLsbD_eq fun i hi => by simpa using hnone i hi)
  obtain ⟨k, hk, rfl, hpos⟩ := hbits i hi
  exact hpos.trans_le ((le_foldl_class (fun k : ChanKind => n.has k.bit) ChanKind.cls chanKinds 0).2 k hk hbit)

theorem supClass_pos {n : Source 12} (h : n.pending ≠ 0) : 0 < supClass n := by
  have hbits : ∀ i < 12, ∃ k ∈ supKinds, k.bit = i ∧ 0 < k.cls := by decide
  obtain ⟨i, hi, hbit⟩ : ∃ i < 12, n.pending.getLsbD i = true := by
    by_contra hnone
    push Not at hnone
    exact h (BitVec.eq_of_getLsbD_eq fun i hi => by simpa using hnone i hi)
  obtain ⟨k, hk, rfl, hpos⟩ := hbits i hi
  exact hpos.trans_le ((le_foldl_class (fun k : SupKind => n.has k.bit) SupKind.cls supKinds 0).2 k hk hbit)

theorem chanClass_of_empty {n : Source 18} (h : n.pending = 0) : chanClass n = 0 :=
  foldl_class_of_none (has := fun k : ChanKind => n.has k.bit) (fun k => by simp [Source.has, h]) _ _

theorem supClass_of_empty {n : Source 12} (h : n.pending = 0) : supClass n = 0 :=
  foldl_class_of_none (has := fun k : SupKind => n.has k.bit) (fun k => by simp [Source.has, h]) _ _

/-- A source whose set is not empty has a class above 0. -/
theorem State.sourceClass_pos {s : State} {x : SourceId} (h : s.sourceSet x ≠ 0) : 0 < s.sourceClass x := by
  have hzero {k : Nat} : (0 : BitVec k).setWidth 24 = 0 := by simp
  cases x with
  | supervisor => exact supClass_pos fun h' => h (by rw [State.sourceSet, h', hzero])
  | channel c => exact chanClass_pos fun h' => h (by rw [State.sourceSet, h', hzero])

/-- The attention is the highest class of the five sources (R184). -/
theorem State.attention_eq_of_highest {s : State} {x : SourceId} (h : ∀ y, s.sourceClass y ≤ s.sourceClass x) :
    s.attention = s.sourceClass x := by
  have h0 := h .supervisor
  have h1 := h (.channel .c0)
  have h2 := h (.channel .c1)
  have h3 := h (.channel .c2)
  have h4 := h (.channel .c3)
  have hmax : s.attention = max (max (max (max (s.sourceClass .supervisor) (s.sourceClass (.channel .c0)))
      (s.sourceClass (.channel .c1))) (s.sourceClass (.channel .c2))) (s.sourceClass (.channel .c3)) := rfl
  rcases x with _ | (_ | _ | _ | _) <;> omega

/-! ## The choice -/

theorem State.Serves.chooseSource_eq {s : State} {x : SourceId} (h : s.Serves x) : s.chooseSource = some x := by
  obtain ⟨hset, horder⟩ := h
  unfold State.chooseSource
  cases hmode : s.active.shaft.order with
  | channelOrder =>
    simp only [hmode] at horder
    exact find?_allSources (bne_iff_ne.2 hset) fun y hy => by simp [horder y hy]
  | severityOrder =>
    simp only [hmode] at horder
    have htop := State.attention_eq_of_highest fun y => (horder y).1
    have hpos := State.sourceClass_pos hset
    simp only [htop]
    rw [if_neg (by omega)]
    refine find?_allSources (beq_self_eq_true _) fun y hy => ?_
    have := (horder y).2 hy
    exact beq_eq_false_iff_ne.2 (by omega)

/-- With nothing pending no source is chosen (R183). -/
theorem State.chooseSource_of_none {s : State} (hsup : s.supNotes.pending = 0)
    (hchans : ∀ c, (s.chan c).notes.pending = 0) : s.chooseSource = none := by
  have hsets (x : SourceId) : s.sourceSet x = 0 := by
    cases x with
    | supervisor => simp [State.sourceSet, hsup]
    | channel c => simp [State.sourceSet, hchans c]
  have hclasses (x : SourceId) : s.sourceClass x = 0 := by
    cases x with
    | supervisor => exact supClass_of_empty hsup
    | channel c => exact chanClass_of_empty (hchans c)
  unfold State.chooseSource
  cases s.active.shaft.order with
  | channelOrder => exact List.find?_eq_none.2 fun x _ => by simp [hsets x]
  | severityOrder =>
    have htop : s.attention = 0 :=
      (State.attention_eq_of_highest (x := .supervisor) fun y => by rw [hclasses, hclasses]).trans (hclasses _)
    simp only [htop, if_true]

theorem State.Takes.exec_fetchNotices {s v : State} {f : Frame} {rest : List Frame} (h : s.Takes f rest) (dt : Nat)
    (hf : f.payload = [0x02#8]) {data : List Byte} (hline : v.resetLine = .negated)
    (hrule : fetchRule (s.taken dt rest).reserving f = ⟨v.reserving, .ok, data⟩) :
    exec (.fetchNotices dt) s = .next (v.replied f .ok data) :=
  congrArg _ (h.serve_replied dt (mine := hasCode codeFetch) (hasCode_of_payload hf) (commonCheck_plain hf (by decide))
    hline hrule)

/-- Settles O43: the source that a fetch serves is the one chosen, which it empties. -/
theorem fetchServesOneSourceAndEmptiesIt : Obligations.FetchServesOneSourceAndEmptiesIt := by
  intro dt s f rest htakes hf
  have hline := htakes.taken_line dt
  have hchoice : (s.taken dt rest).reserving.chooseSource = s.chooseSource := rfl
  refine ⟨fun c hserves => ?_, fun hserves => ?_, fun hsup hchans => ?_⟩
  · refine htakes.exec_fetchNotices dt hf hline ?_
    simp only [fetchRule, hchoice, hserves.chooseSource_eq]
    rfl
  · refine htakes.exec_fetchNotices dt hf hline ?_
    simp only [fetchRule, hchoice, hserves.chooseSource_eq]
    rfl
  · refine htakes.exec_fetchNotices dt hf hline ?_
    simp only [fetchRule, hchoice, State.chooseSource_of_none hsup hchans]
    rfl

end Sys2Proof.Machine
end


section
/-! QUIESCE, THAW and CLEAR_TRIP (R144 to R146, R149). -/

namespace Sys2Proof.Machine

/-! ## QUIESCE -/

/-- The states and outputs that stand in the way of a conditional quiesce (R144). -/
theorem State.blocksQuiesce_iff (s : State) (c : Chan) :
    s.blocksQuiesce c = true ↔
      (s.ctl c).state = .list ∨ (s.ctl c).state = .injected ∨ (∃ d, (s.ctl c).state = .stopping d)
        ∨ (s.ctl c).state = .parkingRamp ∨ (s.ctl c).state = .parkingSet ∨ (s.ctl c).state = .releasingProve
        ∨ (s.ctl c).state = .releasingOpen ∨ ((s.ctl c).state.isTraffic = true ∧ (s.gate c).out ≠ 0) := by
  unfold State.blocksQuiesce
  cases (s.ctl c).state <;> simp [ChanState.isTraffic]

theorem State.anyBlocks_iff (s : State) : allChans.any s.blocksQuiesce = true ↔ ∃ c, s.blocksQuiesce c = true := by
  simp

/-- The controller's record after a forced quiesce (R145). -/
def State.quiescedCtl (s : State) (c : Chan) : Controller :=
  match (s.ctl c).state with
  | .list | .injected | .suspended => s.stoppedCtl c
  | .stopping .suspended => { (s.ctl c).unlisted with state := .stopping .held, watch := s.watchIn c (.stopping .held) }
  | _ => s.ctl c

theorem State.quiesceChannel_eq (s : State) (c : Chan) : s.quiesceChannel c = s.withCtl c (s.quiescedCtl c) := by
  have hself : s = s.withCtl c (s.ctl c) := (State.withChan_chan s c).symm
  unfold State.quiesceChannel State.quiescedCtl
  cases (s.ctl c).state
  case list | injected | suspended => exact s.stopToHeld_eq c
  case stopping d =>
    cases d with
    | held => exact hself
    | suspended => exact s.redirectToHeld_eq c
  all_goals exact hself

/-- A forced quiesce on all four channels (R145). -/
theorem State.quiesceAll_eq (s : State) :
    s.quiesceAll = s.mapChans fun c => { s.chan c with ctl := s.quiescedCtl c } := by
  refine foldl_withChan (F := fun t c => { t.chan c with ctl := t.quiescedCtl c }) State.quiesceChannel_eq
    (fun t d x c h => ?_) s
  have hchan : (t.withChan d x).chan c = t.chan c := State.chan_withChan_other _ _ h
  have hctl : (t.withChan d x).ctl c = t.ctl c := congrArg Channel.ctl hchan
  have hgate : (t.withChan d x).gate c = t.gate c := congrArg Channel.gate hchan
  simp only [State.quiescedCtl, hchan, hctl, State.stoppedCtl_congr hctl hgate rfl rfl,
    State.watchIn_congr hctl hgate rfl rfl]

/-- QUIESCE's rule on a request whose mode is read (R144, R145). -/
theorem quiesceRule_of_mode {f : Frame} {x : Byte} (hf : f.payload = [codeQuiesce, x]) (t : State) :
    quiesceRule t f =
      if x = 0x00#8 then
        if allChans.any t.blocksQuiesce then refusedAs t .notGranted else acceptedAs { t with freeze := true }
      else if x = 0x01#8 then acceptedAs ({ t with freeze := true } : State).quiesceAll
      else refusedAs t .badValue := by
  have hoperand : byteAt f.payload 1 = x := by rw [hf]; rfl
  simp only [quiesceRule, hoperand]

theorem commonCheck_quiesce {f : Frame} {x : Byte} (hf : f.payload = [codeQuiesce, x]) : commonCheck f = none :=
  commonCheck_of_fit hf (by decide) (by rw [hf]; rfl) (.inl (by decide))

section
variable {s v : State} {f : Frame} {rest : List Frame} (h : s.Takes f rest) (dt : Nat) {x : Byte} {r : Result}
include h

theorem State.Takes.exec_quiesceConditional (hf : f.payload = [codeQuiesce, x]) (hx : x ≠ 0x01#8)
    (hline : v.resetLine = .negated) (hrule : quiesceRule (s.taken dt rest).reserving f = ⟨v.reserving, r, []⟩) :
    exec (.quiesceConditional dt) s = .next (v.replied f r []) :=
  congrArg _ (h.serve_replied dt (hasScope_of_mode hf hx) (commonCheck_quiesce hf) hline hrule)

theorem State.Takes.exec_quiesceForced (hf : f.payload = [codeQuiesce, x]) (hx : x ≠ 0x00#8)
    (hline : v.resetLine = .negated) (hrule : quiesceRule (s.taken dt rest).reserving f = ⟨v.reserving, r, []⟩) :
    exec (.quiesceForced dt) s = .next (v.replied f r []) :=
  congrArg _ (h.serve_replied dt (hasScope_of_mode hf hx) (commonCheck_quiesce hf) hline hrule)

end

/-- Settles O44: the modes of QUIESCE, each by its rule, and THAW. -/
theorem freezeIsSetAndCleared : Obligations.FreezeIsSetAndCleared := by
  intro dt s f rest htakes u blocks stopped
  have hline : u.resetLine = .negated := htakes.taken_line dt
  have hblocks : allChans.any u.reserving.blocksQuiesce = true ↔ ∃ c, blocks c :=
    (State.anyBlocks_iff _).trans (exists_congr fun c => State.blocksQuiesce_iff _ c)
  refine ⟨fun hf hnone => ?_, fun hf hsome => ?_, fun hf => ?_, fun mode hmode hf row hrow => ?_, fun hf => ?_⟩
  · refine htakes.exec_quiesceConditional dt (v := { u with freeze := true }) hf (by decide) hline ?_
    rw [quiesceRule_of_mode hf, if_pos rfl, if_neg (mt hblocks.1 (not_exists.2 hnone))]
    rfl
  · refine htakes.exec_quiesceConditional dt hf (by decide) hline ?_
    rw [quiesceRule_of_mode hf, if_pos rfl, if_pos (hblocks.2 hsome)]
    rfl
  · refine htakes.exec_quiesceForced dt
      (v := { u.mapChans fun c => { u.chan c with ctl := stopped c } with freeze := true }) hf (by decide) hline ?_
    rw [quiesceRule_of_mode hf, if_neg (by decide), if_pos rfl, State.quiesceAll_eq]
    rfl
  · obtain ⟨hconditional, hforced⟩ := ne_of_one_lt_toNat hmode
    have hrule : quiesceRule u.reserving f = ⟨u.reserving, .badValue, []⟩ := by
      rw [quiesceRule_of_mode hf, if_neg hconditional, if_neg hforced]
      rfl
    simp only [List.mem_cons, List.not_mem_nil, or_false] at hrow
    rcases hrow with rfl | rfl
    · exact htakes.exec_quiesceConditional dt hf hforced hline hrule
    · exact htakes.exec_quiesceForced dt hf hconditional hline hrule
  · exact congrArg _ (htakes.serve_replied dt (mine := hasCode codeThaw) (v := { u with freeze := false })
      (rule := thawRule) (hasCode_of_payload hf) (commonCheck_plain hf (by decide)) hline rfl)

/-! ## CLEAR_TRIP -/

/-- A channel after CLEAR_TRIP: TRIPPED, it comes to PARKING phase SET, or without a hoist record to UNCONFIGURED with
its timers stopped (R79, R149). -/
def State.clearedChan (s : State) (c : Chan) : Channel :=
  if (s.ctl c).state = .tripped then
    if s.activeFilled then { s.chan c with ctl := s.settingCtl c, gate := { s.gate c with out := 0 } }
    else
      { s.chan c with
        ctl := { s.ctl c with state := .unconfigured, emission := none, feedback := none, watch := none } }
  else s.chan c

theorem State.clearTripChannel_eq (s : State) (c : Chan) :
    s.clearTripChannel c =
      (s.withChan c (s.clearedChan c)).forcing fun d => d == c && ((s.ctl c).state == .tripped && !s.activeFilled) := by
  have hnever : (fun d => d == c && false) = fun _ : Chan => false := funext fun d => Bool.and_false _
  by_cases htripped : (s.ctl c).state = .tripped
  · cases hfilled : s.activeFilled with
    | true =>
      have hconfigured : s.configured c = true := hfilled
      rw [State.clearTripChannel, if_pos htripped, if_pos hconfigured, State.clearedChan, if_pos htripped,
        if_pos hfilled, Bool.not_true, Bool.and_false, hnever, State.forcing_none, State.enterParkingSet_eq]
      rfl
    | false =>
      have hconfigured : ¬ s.configured c = true := by rw [State.configured, hfilled]; decide
      have hhere : ((s.ctl c).state == ChanState.tripped && !false) = true := by rw [htripped]; rfl
      simp only [hhere, Bool.and_true]
      rw [State.clearTripChannel, if_pos htripped, if_neg hconfigured, State.clearedChan, if_pos htripped,
        if_neg (by rw [hfilled]; decide), State.rewriteForced_eq, State.enter_eq, State.modCtl_eq,
        State.chan_withChan_same, State.withChan_withChan]
      rfl
  · have hnot : ((s.ctl c).state == ChanState.tripped) = false := beq_eq_false_iff_ne.2 htripped
    rw [State.clearTripChannel, if_neg htripped, State.clearedChan, if_neg htripped, hnot, Bool.false_and, hnever,
      State.forcing_none, State.withChan_chan]

/-- CLEAR_TRIP on all four channels. -/
theorem State.clearTripChannels_eq (s : State) :
    allChans.foldl State.clearTripChannel s =
      (s.mapChans s.clearedChan).forcing fun c => (s.ctl c).state == .tripped && !s.activeFilled := by
  refine foldl_forcing (F := State.clearedChan) (P := fun t c => (t.ctl c).state == .tripped && !t.activeFilled)
    State.clearTripChannel_eq (fun t d x c h => ?_) (fun t p c => rfl) (fun t d x c h => ?_) (fun t p c => rfl) s
  · simp only [State.clearedChan, State.settingCtl, State.ctl_eq, State.gate_eq, State.chan_withChan_other _ _ h]
    rfl
  · simp only [State.ctl_eq, State.chan_withChan_other _ _ h, State.withChan_activeFilled]

/-- Settles O45: the refusal, and the four channels by the bank. -/
theorem clearTripParksTheTrippedChannels : Obligations.ClearTripParksTheTrippedChannels := by
  intro dt s f rest htakes hf u
  have hline : u.resetLine = .negated := htakes.taken_line dt
  have hexec {v : State} {r : Result} (hv : v.resetLine = .negated)
      (hrule : clearTripRule u.reserving f = ⟨v.reserving, r, []⟩) :
      exec (.clearTrip dt) s = .next (v.replied f r []) :=
    congrArg _ (htakes.serve_replied dt (mine := hasCode codeClearTrip) (hasCode_of_payload hf)
      (commonCheck_plain hf (by decide)) hv hrule)
  have hrule : clearTripRule u.reserving f =
      if s.tripLine then refusedAs u.reserving .tripActive
      else acceptedAs (allChans.foldl State.clearTripChannel u.reserving) := rfl
  refine ⟨fun hasserted => hexec hline ?_, fun hnegated hfilled => hexec (by exact hline) ?_,
    fun hnegated hunfilled => hexec (by exact hline) ?_⟩
  · rw [hrule, if_pos hasserted]
    rfl
  · have hnever : (fun c => (u.reserving.ctl c).state == ChanState.tripped && !u.reserving.activeFilled)
        = fun _ => false := funext fun c => by
      rw [show u.reserving.activeFilled = true from hfilled, Bool.not_true, Bool.and_false]
    have hchan (c : Chan) : u.reserving.clearedChan c = if (s.ctl c).state = .tripped then
        { u.chan c with ctl := u.settingCtl c, gate := { u.gate c with out := 0 } } else u.chan c := by
      rw [State.clearedChan, if_pos (show u.reserving.activeFilled = true from hfilled)]
      rfl
    rw [hrule, if_neg (by rw [hnegated]; decide), State.clearTripChannels_eq, hnever, State.forcing_none,
      funext hchan]
    rfl
  · have hempty : ¬ u.reserving.activeFilled = true := by
      rw [show u.reserving.activeFilled = false from hunfilled]
      decide
    have hwhere : (fun c => (u.reserving.ctl c).state == ChanState.tripped && !u.reserving.activeFilled)
        = fun c => (s.ctl c).state == .tripped := funext fun c => by
      rw [show u.reserving.activeFilled = false from hunfilled, Bool.not_false, Bool.and_true]
      rfl
    have hchan (c : Chan) : u.reserving.clearedChan c = if (s.ctl c).state = .tripped then
        { u.chan c with
          ctl := { u.ctl c with state := .unconfigured, emission := none, feedback := none, watch := none } }
        else u.chan c := by
      rw [State.clearedChan, if_neg hempty]
      rfl
    rw [hrule, if_neg (by rw [hnegated]; decide), State.clearTripChannels_eq, hwhere, funext hchan]
    rfl

end Sys2Proof.Machine
end


section
/-! The requests on a channel (R86, R92, R97, R98, R110, R120, R123 to R126, R140). -/

namespace Sys2Proof.Machine

/-! ## STOP -/

/-- The part after a STOP of channel `c`, by the channel's state (R92). -/
def State.stopped (s : State) (c : Chan) : State :=
  match (s.ctl c).state with
  | .trafficLive | .trafficLapsed | .list | .injected | .suspended => s.withCtl c (s.stoppedCtl c)
  | .stopping .suspended =>
    s.withCtl c { (s.ctl c).unlisted with state := .stopping .held, watch := s.watchIn c (.stopping .held) }
  | _ => s

theorem State.stopChannel_eq (s : State) (c : Chan) : s.stopChannel c = s.stopped c := by
  unfold State.stopChannel State.stopped
  cases (s.ctl c).state
  case trafficLive | trafficLapsed | list | injected | suspended => exact s.stopToHeld_eq c
  case stopping d =>
    cases d with
    | held => rfl
    | suspended => exact s.redirectToHeld_eq c
  all_goals rfl

theorem State.stopped_reserving (s : State) (c : Chan) : s.reserving.stopped c = (s.stopped c).reserving := by
  unfold State.stopped
  rw [State.reserving_ctl]
  cases (s.ctl c).state
  case stopping d => cases d <;> rfl
  all_goals rfl

theorem State.stopped_resetLine (s : State) (c : Chan) : (s.stopped c).resetLine = s.resetLine := by
  unfold State.stopped
  cases (s.ctl c).state
  case stopping d => cases d <;> rfl
  all_goals rfl

/-- Settles O55: STOP is accepted whatever the state is. -/
theorem stopIsAcceptedInEveryState : Obligations.StopIsAcceptedInEveryState := by
  intro dt s f rest c htakes hf u
  have hrule : stopRule u.reserving f = ⟨(u.stopped c).reserving, .ok, []⟩ := by
    rw [stopRule, Frame.channel_of_payload hf, State.stopChannel_eq, State.stopped_reserving]
    rfl
  have hline : (u.stopped c).resetLine = .negated := (u.stopped_resetLine c).trans (htakes.taken_line dt)
  exact congrArg _ (htakes.serve_replied dt (mine := hasCode codeStop) (hasCode_of_payload hf)
    (commonCheck_channel hf (by decide)) hline hrule)

/-! ## TRAFFIC and RELEASE -/

theorem State.startTraffic_eq (s : State) (c : Chan) :
    s.startTraffic c = s.withCtl c { s.ctl c with
      state := .trafficLive, emission := none, demand := some (s.ms + (s.hoist c).demandTimeout),
      watch := s.watchIn c .trafficLive } := by
  simp only [State.startTraffic, State.restartDemand, State.modCtl_eq, State.enter_eq, State.chan_withChan_same,
    State.withChan_withChan, State.watchFor_withChan]
  rfl

/-- A prove time of 0 leads to phase OPEN at once (R140). -/
theorem State.startRelease_eq (s : State) (c : Chan) :
    s.startRelease c = s.withCtl c
      (if (s.hoist c).prove = 0 then
        { s.ctl c with
          state := .releasingOpen, prove := none, brake := some (s.ms + (s.hoist c).brakeConfirm), watch := none }
      else { s.ctl c with state := .releasingProve, prove := some (s.ms + (s.hoist c).prove), watch := none }) := by
  rw [State.startRelease]
  by_cases hprove : (s.hoist c).prove = 0
  · rw [if_pos hprove, if_pos hprove, State.enterOpen_eq]
  · rw [if_neg hprove, if_neg hprove, State.enter_eq, State.modCtl_eq, State.chan_withChan_same,
      State.withChan_withChan]
    rfl

/-- Settles O56: both requests in the one state that accepts them. -/
theorem trafficAndReleaseStart : Obligations.TrafficAndReleaseStart := by
  intro dt s f rest c htakes hfree u k
  have hline : u.resetLine = .negated := htakes.taken_line dt
  have hthawed : ¬ u.reserving.freeze = true := by rw [show u.reserving.freeze = false from hfree]; decide
  refine ⟨fun hf hstate => ?_, fun hf htrip hstate => ?_⟩
  · refine congrArg _ (htakes.serve_replied dt (mine := hasCode codeTraffic) (rule := trafficRule)
      (hasCode_of_payload hf) (commonCheck_channel hf (by decide)) ?_ ?_)
    · exact hline
    · rw [trafficRule, if_neg hthawed, Frame.channel_of_payload hf,
        if_pos (show (u.reserving.ctl c).state = .held from hstate), State.startTraffic_eq]
      rfl
  · have hlevel : ¬ u.reserving.tripLine = true := by rw [show u.reserving.tripLine = false from htrip]; decide
    refine congrArg _ (htakes.serve_replied dt (mine := hasCode codeRelease) (rule := releaseRule)
      (hasCode_of_payload hf) (commonCheck_channel hf (by decide)) ?_ ?_)
    · exact hline
    · rw [releaseRule, if_neg hlevel, if_neg hthawed, Frame.channel_of_payload hf,
        if_pos (show (u.reserving.ctl c).state = .parked from hstate), State.startRelease_eq]
      rfl

/-! ## START_LIST and CONTINUE -/

/-- A timer that runs is not started again (R80). -/
theorem Option.or_or_self {α : Type} (x y : Option α) : (x.or y).or y = x.or y := by cases x <;> cases y <;> rfl

/-- The stall watch goes on from one watched state to the next (R45). -/
theorem State.watchFor_watchIn (s : State) (c : Chan) {x : Channel} {st st' : ChanState}
    (hwatched : st.watched = true) (hwatched' : st'.watched = true) (hgate : x.gate = s.gate c)
    (hwatch : x.ctl.watch = s.watchIn c st) : s.watchFor c x st' = s.watchIn c st' := by
  simp only [State.watchFor, hgate, hwatch, State.watchIn, hwatched, hwatched', true_and]
  split
  · exact Option.or_or_self ..
  · rfl

/-- A channel that has come into LIST and is barred at once stops as from where it came (R109). -/
theorem State.stoppedCtl_listed (s : State) (c : Chan) {k : Controller}
    (hk : k = { s.ctl c with state := .list, watch := s.watchIn c .list }
      ∨ k = { s.ctl c with
        state := .list, watch := s.watchIn c .list, demand := none, emission := s.emissionOn c }) :
    (s.withCtl c k).stoppedCtl c = s.stoppedCtl c := by
  have hwatch : s.watchFor c { s.chan c with ctl := k.bare } (.stopping .held) = s.watchIn c (.stopping .held) :=
    State.watchFor_watchIn s c (st := .list) rfl rfl rfl (by rcases hk with rfl | rfl <;> rfl)
  have hemission : s.emissionFor c { s.chan c with ctl := k.bare } = s.emissionOn c := by
    rcases hk with rfl | rfl
    · rfl
    · exact Option.or_or_self ..
  have hrest : s.restFor c { s.chan c with ctl := k.bare } = s.rest c := by rcases hk with rfl | rfl <;> rfl
  rw [State.stoppedCtl_withCtl]
  simp only [hwatch, hemission, hrest]
  rcases hk with rfl | rfl <;> rfl

theorem State.barredOn_withCtl {s : State} {c : Chan} {k : Controller}
    (hstopped : (s.withCtl c k).stoppedCtl c = s.stoppedCtl c) (i : Fin 256) (cause : ListCause) :
    (s.withCtl c k).barredOn c i cause = s.barredOn c i cause := by
  simp only [State.barredOn, hstopped, State.chan_withCtl_same]
  simp only [State.withCtl, State.withChan_withChan]

/-- The record that START_LIST gives the channel before the descriptor becomes current (R97). -/
def State.startingCtl (s : State) (c : Chan) : Controller :=
  { s.ctl c with state := .list, watch := s.watchIn c .list, demand := none, emission := s.emissionOn c }

theorem State.startList_eq (s : State) (c : Chan) (i : Fin 256) :
    s.startList c i = (s.withCtl c (s.startingCtl c)).becomeCurrent c i := by
  simp only [State.startList, State.modCtl_eq, State.runEmission_eq, State.enter_eq, State.chan_withChan_same,
    State.withChan_withChan, State.watchFor_withChan, State.emissionFor_withChan]
  rfl

theorem State.startList_of_admits {s : State} {c : Chan} {i : Fin 256} (h : s.Admits c (s.descs[i])) :
    s.startList c i = s.withCtl c { s.listedCtl c i with demand := none, emission := s.emissionOn c } := by
  rw [State.startList_eq, State.becomeCurrent_of_free (s := s.withCtl c (s.startingCtl c)) h.barred,
    State.ctl_withCtl_same, State.withCtl, State.withCtl, State.chan_withChan_same, State.withChan_withChan]
  rfl

theorem State.startList_of_bars {s : State} {c : Chan} {i : Fin 256} {cause : ListCause}
    (h : s.Bars c (s.descs[i]) cause) : s.startList c i = s.barredOn c i cause := by
  rw [State.startList_eq, State.becomeCurrent_of_barred (s := s.withCtl c (s.startingCtl c)) h.barred]
  exact State.barredOn_withCtl (s.stoppedCtl_listed c (.inr rfl)) i cause

theorem State.enter_list_eq (s : State) (c : Chan) :
    s.enter c .list = s.withCtl c { s.ctl c with state := .list, watch := s.watchIn c .list } := State.enter_eq ..

theorem State.resumeList_of_admits {s : State} {c : Chan} {j : Fin 256} (h : s.Admits c (s.descs[j])) :
    (s.enter c .list).becomeCurrent c j = s.withCtl c (s.listedCtl c j) := by
  rw [State.enter_list_eq, State.becomeCurrent_of_free (s := s.withCtl c _) h.barred, State.ctl_withCtl_same,
    State.withCtl, State.withCtl, State.chan_withChan_same, State.withChan_withChan]
  rfl

theorem State.resumeList_of_bars {s : State} {c : Chan} {j : Fin 256} {cause : ListCause}
    (h : s.Bars c (s.descs[j]) cause) : (s.enter c .list).becomeCurrent c j = s.barredOn c j cause := by
  rw [State.enter_list_eq, State.becomeCurrent_of_barred (s := s.withCtl c _) h.barred]
  exact State.barredOn_withCtl (s.stoppedCtl_listed c (.inl rfl)) j cause

theorem ChanState.admitsStart_iff (st : ChanState) :
    st.admitsStart = true ↔ st = .held ∨ st = .trafficLive ∨ st = .trafficLapsed ∨ st = .suspended := by
  cases st <;> simp [ChanState.admitsStart]

/-- The index of START_LIST is a number of two bytes. -/
theorem natAt_index {f : Frame} {b ch hi lo : Byte} (hf : f.payload = [b, ch, hi, lo]) :
    natAt f.payload 2 2 = hi.toNat * 256 + lo.toNat := by
  rw [hf]
  simp [natAt, bytesAt, bytesNat]

theorem commonCheck_startList {f : Frame} {c : Chan} {hi lo : Byte}
    (hf : f.payload = [codeStartList, chanByte c, hi, lo]) : commonCheck f = none := by
  have hchannel : (chanByte c).toNat ≤ 3 := by cases c <;> decide
  exact commonCheck_of_fit hf (by decide) (by rw [hf]; rfl) (.inr (by rw [hf]; exact hchannel))

/-- START_LIST's rule once its operands are read (R96, R97, R110). -/
theorem startListRule_of_index {f : Frame} {c : Chan} {i : Fin 256}
    (hf : f.payload = [codeStartList, chanByte c, 0x00#8, BitVec.ofFin i]) (t : State) :
    startListRule t f =
      if t.freeze then refusedAs t .frozen
      else if (t.ctl c).state.admitsStart then acceptedAs (t.startList c i)
      else refusedAs t .state := by
  have hindex : natAt f.payload 2 2 = i.val := (natAt_index hf).trans (by simp)
  have hwithin : natAt f.payload 2 2 < 256 := by rw [hindex]; exact i.isLt
  have hsame : (⟨natAt f.payload 2 2, hwithin⟩ : Fin 256) = i := Fin.ext hindex
  rw [startListRule, dif_pos hwithin, hsame, Frame.channel_of_payload hf]

theorem continueRule_of_channel {f : Frame} {c : Chan} (hf : f.payload = [codeContinue, chanByte c]) (t : State) :
    continueRule t f =
      if t.freeze then refusedAs t .frozen
      else if (t.ctl c).state = .suspended then acceptedAs (t.continueList c)
      else refusedAs t .state := by
  rw [continueRule, Frame.channel_of_payload hf]

section
variable {s v : State} {f : Frame} {rest : List Frame} (h : s.Takes f rest) (dt : Nat) {c : Chan} {r : Result}
  (hline : v.resetLine = .negated)
include h hline

theorem State.Takes.exec_startList {hi lo : Byte} (hf : f.payload = [codeStartList, chanByte c, hi, lo])
    (hrule : startListRule (s.taken dt rest).reserving f = ⟨v.reserving, r, []⟩) :
    exec (.startList dt) s = .next (v.replied f r []) :=
  congrArg _ (h.serve_replied dt (hasCode_of_payload hf) (commonCheck_startList hf) hline hrule)

theorem State.Takes.exec_continueList (hf : f.payload = [codeContinue, chanByte c])
    (hrule : continueRule (s.taken dt rest).reserving f = ⟨v.reserving, r, []⟩) :
    exec (.continueList dt) s = .next (v.replied f r []) :=
  congrArg _ (h.serve_replied dt (hasCode_of_payload hf) (commonCheck_channel hf (by decide)) hline hrule)

end

/-- The rules of admission read neither the clock nor the engine. -/
theorem State.Admits.taken {s : State} {c : Chan} {d : Descriptor} (h : s.Admits c d) (dt : Nat) (rest : List Frame) :
    (s.taken dt rest).reserving.Admits c d := by
  obtain ⟨hvalid, htop, hbottom, hdwell⟩ := h
  exact ⟨hvalid, htop, hbottom, hdwell⟩

theorem State.Bars.taken {s : State} {c : Chan} {d : Descriptor} {cause : ListCause} (h : s.Bars c d cause) (dt : Nat)
    (rest : List Frame) : (s.taken dt rest).reserving.Bars c d cause := by
  cases h with
  | invalid hvalid => exact .invalid hvalid
  | outsideStops hvalid hout => exact .outsideStops hvalid hout
  | noDwellZone z hvalid htop hbottom hdwell hzone hno => exact .noDwellZone z hvalid htop hbottom hdwell hzone hno

theorem State.continueList_of_some {s : State} {c : Chan} {i j : Fin 256} (hcurrent : (s.ctl c).current = some i)
    (hj : s.Successor i j) : s.continueList c = (s.enter c .list).becomeCurrent c j := by
  simp only [State.continueList, hcurrent, hj.eq]

theorem State.continueList_of_none {s : State} {c : Chan} {i : Fin 256} (hcurrent : (s.ctl c).current = some i)
    (hlast : s.NoSuccessor i) : s.continueList c = s.endList c := by
  simp only [State.continueList, hcurrent, hlast.eq]

/-- Settles O54: the descriptor is let in or barred, and CONTINUE may find no successor. -/
theorem listsStartAndContinue : Obligations.ListsStartAndContinue := by
  intro dt s f rest c htakes hfree u st
  have hline : u.resetLine = .negated := htakes.taken_line dt
  have hthawed : ¬ u.reserving.freeze = true := by rw [show u.reserving.freeze = false from hfree]; decide
  refine ⟨fun i hf hstate => ?_, fun i hf hstate hcurrent => ?_⟩
  · have hrule : startListRule u.reserving f = acceptedAs (u.reserving.startList c i) := by
      rw [startListRule_of_index hf, if_neg hthawed,
        if_pos (show (u.reserving.ctl c).state.admitsStart = true from (ChanState.admitsStart_iff _).2 hstate)]
    refine ⟨fun hadmits => htakes.exec_startList dt (by exact hline) hf ?_,
      fun cause hbars => htakes.exec_startList dt (by exact hline) hf ?_⟩
    · rw [hrule, State.startList_of_admits (s := u.reserving) (hadmits.taken dt rest)]
      rfl
    · rw [hrule, State.startList_of_bars (s := u.reserving) (hbars.taken dt rest)]
      rfl
  · have hrule : continueRule u.reserving f = acceptedAs (u.reserving.continueList c) := by
      rw [continueRule_of_channel hf, if_neg hthawed, if_pos (show (u.reserving.ctl c).state = .suspended from hstate)]
    have hcurrent' : (u.reserving.ctl c).current = some i := hcurrent
    refine ⟨fun j hj hadmits => htakes.exec_continueList dt (by exact hline) hf ?_,
      fun j cause hj hbars => htakes.exec_continueList dt (by exact hline) hf ?_,
      fun hlast => htakes.exec_continueList dt (by exact hline) hf ?_⟩
    · rw [hrule, State.continueList_of_some hcurrent' (by exact hj),
        State.resumeList_of_admits (s := u.reserving) (hadmits.taken dt rest)]
      rfl
    · rw [hrule, State.continueList_of_some hcurrent' (by exact hj),
        State.resumeList_of_bars (s := u.reserving) (hbars.taken dt rest)]
      rfl
    · rw [hrule, State.continueList_of_none hcurrent' (by exact hlast), State.endList_eq]
      rfl

end Sys2Proof.Machine
end


section
/-! RESPOND and PARK by the grid of section 4.8 (R98, R123 to R126). -/

namespace Sys2Proof.Machine

/-! ## RESPOND -/

theorem State.startInjection_eq (s : State) (c : Chan) (saved : Saved) (power : Int) (duration : Nat) :
    s.startInjection c saved power duration =
      s.withCtl c { (s.ctl c).unlisted with
        state := .injected, demand := none, emission := s.emissionOn c, slot := some saved, power := power,
        duration := some (s.ms + duration), limited := false, watch := s.watchIn c .injected } := by
  simp only [State.startInjection, State.modCtl_eq, State.runEmission_eq, State.enter_eq, State.chan_withChan_same,
    State.withChan_withChan, State.watchFor_withChan, State.emissionFor_withChan]
  rfl

theorem State.replaceInjection_eq (s : State) (c : Chan) (power : Int) (duration : Nat) :
    s.replaceInjection c power duration =
      s.withCtl c { s.ctl c with power := power, duration := some (s.ms + duration), limited := false } :=
  State.modCtl_eq ..

section
variable {f : Frame} {c : Chan} {power : Int} {duration : Nat}
  (hf : f.payload = [codeRespond, chanByte c] ++ intBytes 4 power ++ natBytes 4 duration)
include hf

theorem commonCheck_respond : commonCheck f = none := by
  have hlen : lenOk f.payload = true := by
    simp [hf, lenOk, byteAt, codeTableWrite, codeTableRead, codeActivate, codeListWrite, codeListRead,
      codeStartList, codeRespond]
  have hchannel : (chanByte c).toNat ≤ 3 := by cases c <;> decide
  exact commonCheck_of_fit hf (by decide) hlen (.inr (by rw [hf]; exact hchannel))

/-- The clamped power of a RESPOND (R123). -/
theorem respondPower_eq (hlow : -2147483648 ≤ power) (hhigh : power < 2147483648) :
    respondPower f = if power < -100000 then -100000 else if 100000 < power then 100000 else power := by
  have hread : intAt f.payload 2 4 = power := by
    rw [hf, List.append_assoc]
    exact intAt_zero (k := 3) (by simpa using hlow) (by simpa using hhigh) (natBytes 4 duration)
  rw [respondPower, hread, clampInt, Config.maxPower]
  split_ifs <;> omega

theorem natAt_respond (hduration : duration < 4294967296) : natAt f.payload 6 4 = duration := by
  have hread : natAt f.payload 6 4 = natAt (natBytes 4 duration ++ []) 0 4 := by
    rw [hf, List.append_nil]
    exact natAt_prefix (o := 6) (by simp) (natBytes 4 duration) 0 4
  rw [hread, natAt_zero hduration]

/-- The clamped duration of a RESPOND (R123). -/
theorem respondDuration_eq (hduration : duration < 4294967296) :
    respondDuration f = if 600000 < duration then 600000 else duration := by
  rw [respondDuration, natAt_respond hf hduration, Config.maxDuration]
  split_ifs <;> omega

end

/-- RESPOND's rule on a duration other than 0 with the freeze clear, where an injection starts (R124). -/
theorem respondRule_of_saves {t : State} {f : Frame} {c : Chan} {saved : Saved} (hchannel : f.channel = c)
    (hlasts : ¬ natAt f.payload 6 4 = 0) (hthawed : ¬ t.freeze = true) (hsave : t.saveOf c = some saved) :
    respondRule t f = acceptedAs (t.startInjection c saved (respondPower f) (respondDuration f)) := by
  have hstate : ¬ (t.ctl c).state = .injected := by
    intro hinjected
    rw [State.saveOf, hinjected] at hsave
    exact absurd hsave (by simp)
  rw [respondRule, if_neg hlasts, if_neg hthawed, hchannel, if_neg hstate, hsave]

/-- The states in which the grid refuses RESPOND with STATE (R96). -/
def ChanState.BarsRespond (st : ChanState) : Prop :=
  st.forced = true ∨ st = .releasingProve ∨ st = .releasingOpen ∨ (∃ d, st = .stopping d)
    ∨ st = .parkingRamp ∨ st = .parkingSet

theorem State.saveOf_of_bars {t : State} {c : Chan} (h : (t.ctl c).state.BarsRespond) : t.saveOf c = none := by
  rw [State.saveOf]
  rcases h with hforced | hst | hst | ⟨d, hst⟩ | hst | hst
  · generalize (t.ctl c).state = st at hforced
    cases st <;> simp_all [ChanState.forced]
  all_goals simp [hst]

theorem ChanState.BarsRespond.ne_injected {st : ChanState} (h : st.BarsRespond) : st ≠ .injected := by
  rintro rfl
  simp [ChanState.BarsRespond, ChanState.forced] at h

/-- Settles O57: the two refusals in order, then the grid by what the save slot would record. -/
theorem respondStartsOrReplacesAnInjection : Obligations.RespondStartsOrReplacesAnInjection := by
  intro dt s f rest c power duration htakes hlow hhigh hduration hf u st p ends left starts refused
  have hline : u.resetLine = .negated := htakes.taken_line dt
  have hchannel : f.channel = c := Frame.channel_of_payload hf
  have hread : natAt f.payload 6 4 = duration := natAt_respond hf hduration
  have hpower : respondPower f = p := respondPower_eq hf hlow hhigh
  have hends : some (u.ms + respondDuration f) = ends := by rw [respondDuration_eq hf hduration]
  have hserved {v : State} {r : Result} (hstays : v.resetLine = .negated)
      (hrule : respondRule u.reserving f = ⟨v.reserving, r, []⟩) :
      exec (.respond dt) s = .next (v.replied f r []) :=
    congrArg _ (htakes.serve_replied dt (mine := hasCode codeRespond) (hasCode_of_payload hf) (commonCheck_respond hf)
      hstays hrule)
  refine ⟨fun hzero => hserved hline ?_, fun hlasts hfrozen => hserved hline ?_, fun hlasts hfree => ?_⟩
  · rw [respondRule, if_pos (hread.trans hzero)]
    rfl
  · rw [respondRule, if_neg (by omega), if_pos (show u.reserving.freeze = true from hfrozen)]
    rfl
  · have hlasts' : ¬ natAt f.payload 6 4 = 0 := by omega
    have hthawed : ¬ u.reserving.freeze = true := by rw [show u.reserving.freeze = false from hfree]; decide
    have hstarts {saved : Saved} (hsave : u.reserving.saveOf c = some saved) : starts saved := by
      refine hserved (by exact hline) ?_
      rw [respondRule_of_saves hchannel hlasts' hthawed hsave, State.startInjection_eq, hpower]
      rw [show u.reserving.ms = u.ms from rfl, hends]
      rfl
    refine ⟨fun hst => hstarts ?_, fun hst => hstarts ?_, fun i hst hcurrent => hstarts ?_,
      fun i hst hcurrent => hstarts ?_, fun hst => hserved (by exact hline) ?_, fun hst => hserved hline ?_⟩
    · rcases hst with hst | hst <;> rw [State.saveOf, show (u.reserving.ctl c).state = _ from hst]
    · rw [State.saveOf, show (u.reserving.ctl c).state = _ from hst]
    · rw [State.saveOf, show (u.reserving.ctl c).state = _ from hst, show (u.reserving.ctl c).current = _ from hcurrent]
      rfl
    · rw [State.saveOf, show (u.reserving.ctl c).state = _ from hst, show (u.reserving.ctl c).current = _ from hcurrent]
      rfl
    · rw [respondRule, if_neg hlasts', if_neg hthawed, hchannel,
        if_pos (show (u.reserving.ctl c).state = .injected from hst), State.replaceInjection_eq, hpower,
        show u.reserving.ms = u.ms from rfl, hends]
      rfl
    · have hbars : (u.reserving.ctl c).state.BarsRespond := hst
      rw [respondRule, if_neg hlasts', if_neg hthawed, hchannel, if_neg hbars.ne_injected, State.saveOf_of_bars hbars]
      rfl

/-! ## PARK -/

/-- PARK leads through phase RAMP from these states (R98). -/
def ChanState.RampsToPark (st : ChanState) : Prop :=
  st = .held ∨ st.isTraffic = true ∨ st = .list ∨ st = .suspended ∨ st = .injected ∨ ∃ d, st = .stopping d

theorem parkRule_of_ramping {t : State} {f : Frame} {c : Chan} (hchannel : f.channel = c)
    (h : (t.ctl c).state.RampsToPark) : parkRule t f = acceptedAs (t.enterParkingRamp c) := by
  rw [parkRule, hchannel]
  generalize (t.ctl c).state = st at h
  rw [ChanState.RampsToPark, ChanState.isTraffic_iff] at h
  rcases h with rfl | (rfl | rfl) | rfl | rfl | rfl | ⟨d, rfl⟩ <;> rfl

theorem Controller.driveSound_iff (k : Controller) :
    k.driveSound = true ↔ ∀ r, k.record = some r → r.drive ≠ .fault := by
  rw [Controller.driveSound]
  cases k.record <;> simp

/-- PARK goes to phase SET at once from RELEASING and from a FAULT whose drive reports none (R95, R98). -/
theorem parkRule_of_setting {t : State} {f : Frame} {c : Chan} (hchannel : f.channel = c)
    (h : (t.ctl c).state = .releasingProve ∨ (t.ctl c).state = .releasingOpen
      ∨ ((t.ctl c).state = .fault ∧ (t.ctl c).driveSound = true)) : parkRule t f = acceptedAs (t.parkToSet c) := by
  rw [parkRule, hchannel]
  rcases h with hst | hst | ⟨hst, hsound⟩
  · rw [hst]
  · rw [hst]
  · rw [hst]
    exact if_pos hsound

/-- Settles O58: the grid's row for PARK, state by state. -/
theorem parkFollowsTheGrid : Obligations.ParkFollowsTheGrid := by
  intro dt s f rest c htakes hf u st given ramping started sound setting answers
  have hline : u.resetLine = .negated := htakes.taken_line dt
  have hchannel : f.channel = c := Frame.channel_of_payload hf
  have hserved {v : State} {r : Result} (hstays : v.resetLine = .negated)
      (hrule : parkRule u.reserving f = ⟨v.reserving, r, []⟩) : answers v r :=
    congrArg _ (htakes.serve_replied dt (mine := hasCode codePark) (hasCode_of_payload hf)
      (commonCheck_channel hf (by decide)) hstays hrule)
  refine ⟨fun hramping hmoves => hserved (by exact hline) ?_, fun hramping hstill hturns => hserved (by exact hline) ?_,
    fun hramping hrest => hserved (by exact hline) ?_, fun hst => hserved (by exact hline) ?_,
    fun ⟨hst, hunsound⟩ => hserved hline ?_, fun hst => hserved hline ?_, fun hst => hserved hline ?_⟩
  · rw [parkRule_of_ramping hchannel (by exact hramping), State.enterParkingRamp_of_moving (by exact hmoves)]
    rfl
  · rw [parkRule_of_ramping hchannel (by exact hramping),
      State.enterParkingRamp_of_still (by exact hstill) (by exact hturns)]
    rfl
  · have hstill : (s.gate c).out = 0 := State.out_zero_of_rest hrest
    have hsetting : setting = { given with state := .parkingSet, brake := started } := by
      simp only [setting, if_pos hstill]
      rfl
    rw [parkRule_of_ramping hchannel (by exact hramping), State.enterParkingRamp_of_rest (by exact hrest), hsetting]
    rfl
  · rw [parkRule_of_setting (t := u.reserving) hchannel
      (hst.imp_right (Or.imp_right fun h => ⟨h.1, (Controller.driveSound_iff _).2 h.2⟩)), State.parkToSet_eq]
    rfl
  · have hdrive : ¬ (u.reserving.ctl c).driveSound = true := fun h => hunsound ((Controller.driveSound_iff _).1 h)
    rw [parkRule, hchannel, show (u.reserving.ctl c).state = _ from hst]
    exact if_neg hdrive
  · rw [parkRule, hchannel]
    rcases hst with hst | hst | hst <;> rw [show (u.reserving.ctl c).state = _ from hst] <;> rfl
  · rw [parkRule, hchannel]
    rcases hst with hst | hst <;> rw [show (u.reserving.ctl c).state = _ from hst] <;> rfl

end Sys2Proof.Machine
end


section
/-! Refusals by the common checks, the freeze, the trip line and the grid (R96, R110, R140, R175, R176). -/

namespace Sys2Proof.Machine

/-! ## The LEN of a request -/

theorem Table.writeLen_shaft (n : Nat) : Table.shaft.writeLen n = true ↔ n = 33 := by
  simp [Table.writeLen, Table.most, Table.recordsAt, Table.recordSize]

theorem Table.writeLen_zones (n : Nat) : Table.zones.writeLen n = true ↔ n ∈ [13, 22, 31, 40] := by
  simp [Table.writeLen, Table.most, Table.recordsAt, Table.recordSize, List.range, List.range.loop]

theorem Table.writeLen_landmarks (n : Nat) : Table.landmarks.writeLen n = true ↔ n ∈ [11, 19, 27, 35, 43] := by
  simp [Table.writeLen, Table.most, Table.recordsAt, Table.recordSize, List.range, List.range.loop]

theorem Table.writeLen_hoists (n : Nat) : Table.hoists.writeLen n = true ↔ n = 44 := by
  simp [Table.writeLen, Table.most, Table.recordsAt, Table.recordSize]

/-- The LEN of a TABLE_WRITE, table by table (section 8.7). -/
theorem lenOk_tableWrite {p : List Byte} (h : byteAt p 0 = 0x10#8) : lenOk p = true ↔ LenMatches p := by
  simp only [lenOk, LenMatches, codeTableWrite, h, if_true, Bool.and_eq_true, decide_eq_true_eq, decodeTable]
  split_ifs
  · rw [Table.writeLen_shaft]; omega
  · rw [Table.writeLen_zones]; simp only [List.mem_cons, List.not_mem_nil, or_false]; omega
  · rw [Table.writeLen_landmarks]; simp only [List.mem_cons, List.not_mem_nil, or_false]; omega
  · rw [Table.writeLen_hoists]; omega
  · exact and_iff_left rfl

theorem lenOk_iff (p : List Byte) : lenOk p = true ↔ LenMatches p := by
  by_cases hwrite : byteAt p 0 = 0x10#8
  · exact lenOk_tableWrite hwrite
  simp only [lenOk, LenMatches, codeTableWrite, hwrite, if_false, codeTableRead, codeActivate, codeListWrite,
    codeListRead, codeStartList, codeRespond, codeSetDepth, codeContinue, codeStop, codeTraffic, codePark, codeRelease,
    codeQuiesce, codeReset]
  generalize byteAt p 0 = code
  by_cases hread : code = 0x11#8
  · simp [hread]
  by_cases hactivate : code = 0x13#8
  · simp [hactivate]
  simp only [hread, hactivate, if_false, false_or]
  split_ifs <;> simp_all [or_assoc]

/-! ## The rows -/

/-- The row answers a request that the common checks refuse by their result code, with no other change (R176). The
rows that an operand tells apart answer it too where the LEN is wrong (log 3). -/
def RowRefuses (row : Byte × Instr) : Prop :=
  ∀ (s : State) (f : Frame) (rest : List Frame) (ops : List Byte) (r : Result), s.Takes f rest →
    f.payload = row.1 :: ops → commonCheck f = some r → lenOk f.payload = false ∨ row.1 ∈ channelCodes →
    exec row.2 s = .next ((s.taken row.2.elapsed rest).replied f r [])

/-- A row of a code of its own. -/
theorem RowRefuses.of_code {code : Byte} {c : Instr} {rule : State → Frame → Reaction}
    (hexec : ∀ s, exec c s = .next ((s.advance c.elapsed).serve (hasCode code) rule)) : RowRefuses (code, c) := by
  intro s f rest ops r htakes hf hcheck _
  rw [hexec, htakes.serve_refused c.elapsed (hasCode_of_payload hf) hcheck,
    State.answer_reserving (htakes.taken_line _)]

/-- A row that shares its code with another: no such request names a channel. -/
theorem RowRefuses.of_scope {code other : Byte} {c : Instr} {body : State → Frame → State}
    (hexec : ∀ s, exec c s = .next ((s.advance c.elapsed).takeRequest (hasScope code other) body))
    (hnames : code ∉ channelCodes) (hbody : ∀ t f r, commonCheck f = some r → body t f = t.answer f r []) :
    RowRefuses (code, c) := by
  intro s f rest ops r htakes hf hcheck hlen
  have hmine : hasScope code other f = true := by
    rw [hasScope, hasCode_of_payload hf, hlen.resolve_right hnames]
    rfl
  rw [hexec, htakes.takeRequest_eq c.elapsed hmine, hbody _ f r hcheck, State.answer_reserving (htakes.taken_line _)]

theorem State.takeActivate_of_refused (t : State) (f : Frame) (r : Result) (h : commonCheck f = some r) :
    t.takeActivate f = t.answer f r [] := by
  simp only [State.takeActivate, h]

theorem State.takeReset_of_refused (t : State) (f : Frame) (r : Result) (h : commonCheck f = some r) :
    t.takeReset f = t.answer f r [] := by
  simp only [State.takeReset, h]

/-- A serving row that shares its code is such a row: the common checks answer before the rule. -/
theorem RowRefuses.of_serve {code other : Byte} {c : Instr} {rule : State → Frame → Reaction}
    (hexec : ∀ s, exec c s = .next ((s.advance c.elapsed).serve (hasScope code other) rule))
    (hnames : code ∉ channelCodes) : RowRefuses (code, c) :=
  .of_scope hexec hnames fun t f r h => by simp only [h]

/-- Every request row refuses what the common checks refuse. -/
theorem rowRefuses_of_mem {dt : Nat} {row : Byte × Instr} (hrow : row ∈ requestRows dt) : RowRefuses row := by
  have hrows : ∀ row ∈ requestRows dt, RowRefuses row := by
    simp only [requestRows, List.forall_mem_cons, List.not_mem_nil, false_imp_iff, implies_true, and_true]
    exact ⟨.of_code fun _ => rfl, .of_code fun _ => rfl, .of_code fun _ => rfl, .of_code fun _ => rfl,
      .of_code fun _ => rfl, .of_scope (fun _ => rfl) (by decide) State.takeActivate_of_refused,
      .of_scope (fun _ => rfl) (by decide) State.takeActivate_of_refused, .of_code fun _ => rfl,
      .of_code fun _ => rfl, .of_code fun _ => rfl, .of_code fun _ => rfl, .of_code fun _ => rfl,
      .of_code fun _ => rfl, .of_code fun _ => rfl, .of_code fun _ => rfl, .of_code fun _ => rfl,
      .of_code fun _ => rfl, .of_serve (fun _ => rfl) (by decide), .of_serve (fun _ => rfl) (by decide),
      .of_code fun _ => rfl, .of_code fun _ => rfl,
      .of_scope (fun _ => rfl) (by decide) State.takeReset_of_refused,
      .of_scope (fun _ => rfl) (by decide) State.takeReset_of_refused⟩
  exact hrows row hrow

/-- The codes of the rows are the request codes, and each row takes its operand's time. -/
theorem requestRows_codes (dt : Nat) (code : Byte) : code ∈ requestCodes ↔ ∃ row ∈ requestRows dt, row.1 = code := by
  have hcodes : ∀ b, b ∈ requestCodes ↔ b ∈ (requestRows 0).map Prod.fst := by decide
  have hsame : (requestRows dt).map Prod.fst = (requestRows 0).map Prod.fst := rfl
  rw [hcodes, ← hsame, List.mem_map]

theorem requestRows_elapsed {dt : Nat} {row : Byte × Instr} (hrow : row ∈ requestRows dt) : row.2.elapsed = dt := by
  have hall : ∀ row ∈ requestRows dt, row.2.elapsed = dt := by
    simp only [requestRows, List.forall_mem_cons, List.not_mem_nil, false_imp_iff, implies_true, and_true]
    exact ⟨rfl, rfl, rfl, rfl, rfl, rfl, rfl, rfl, rfl, rfl, rfl, rfl, rfl, rfl, rfl, rfl, rfl, rfl, rfl, rfl, rfl, rfl,
      rfl⟩
  exact hall row hrow

/-! ## The common checks -/

theorem commonCheck_of_unknown {f : Frame} (h : isUnknown f = true) : commonCheck f = some .badRequest := by
  rw [isUnknown] at h
  rw [commonCheck]
  cases hcode : f.code with
  | none => rfl
  | some code => simp only [hcode] at h; exact if_pos h

theorem commonCheck_of_len {f : Frame} {code : Byte} {ops : List Byte} (hf : f.payload = code :: ops)
    (hlen : lenOk f.payload = false) : commonCheck f = some .badRequest := by
  simp [commonCheck, Frame.code_of_payload hf, hlen]

theorem commonCheck_of_channel {f : Frame} {code : Byte} {ops : List Byte} (hf : f.payload = code :: ops)
    (hlen : lenOk f.payload = true) (hknown : code ∈ requestCodes) (hnames : code ∈ channelCodes)
    (hchannel : 3 < (byteAt f.payload 1).toNat) : commonCheck f = some .badChannel := by
  simp [commonCheck, Frame.code_of_payload hf, hlen, hknown, hnames, hchannel]

/-! ## The rules' refusals -/

/-- The request is refused with `r` wherever it is served by `rule` and passes the common checks. -/
theorem State.Takes.serve_refusing {s : State} {f : Frame} {rest : List Frame} (h : s.Takes f rest) (dt : Nat)
    {mine : Frame → Bool} (hmine : mine f = true) (hcheck : commonCheck f = none) {rule : State → Frame → Reaction}
    {r : Result} (hrule : rule (s.taken dt rest).reserving f = refusedAs (s.taken dt rest).reserving r) :
    (s.advance dt).serve mine rule = (s.taken dt rest).replied f r [] :=
  h.serve_replied dt hmine hcheck (h.taken_line dt) hrule

section
variable {s : State} {f : Frame} {rest : List Frame} (h : s.Takes f rest) (dt : Nat)
include h

theorem State.Takes.unknownRequest_refused (hunknown : isUnknown f = true) :
    exec (.unknownRequest dt) s = .next ((s.taken dt rest).replied f .badRequest []) :=
  congrArg _ ((h.serve_refused dt hunknown (commonCheck_of_unknown hunknown) _).trans
    (State.answer_reserving (h.taken_line dt) f .badRequest []))

variable {c : Chan} {r : Result}

theorem State.Takes.startList_refused {hi lo : Byte} (hf : f.payload = [codeStartList, chanByte c, hi, lo])
    (hrule : startListRule (s.taken dt rest).reserving f = refusedAs (s.taken dt rest).reserving r) :
    exec (.startList dt) s = .next ((s.taken dt rest).replied f r []) :=
  congrArg _ (h.serve_refusing dt (hasCode_of_payload hf) (commonCheck_startList hf) hrule)

theorem State.Takes.continueList_refused (hf : f.payload = [codeContinue, chanByte c])
    (hrule : continueRule (s.taken dt rest).reserving f = refusedAs (s.taken dt rest).reserving r) :
    exec (.continueList dt) s = .next ((s.taken dt rest).replied f r []) :=
  congrArg _ (h.serve_refusing dt (hasCode_of_payload hf) (commonCheck_channel hf (by decide)) hrule)

theorem State.Takes.traffic_refused (hf : f.payload = [codeTraffic, chanByte c])
    (hrule : trafficRule (s.taken dt rest).reserving f = refusedAs (s.taken dt rest).reserving r) :
    exec (.traffic dt) s = .next ((s.taken dt rest).replied f r []) :=
  congrArg _ (h.serve_refusing dt (hasCode_of_payload hf) (commonCheck_channel hf (by decide)) hrule)

theorem State.Takes.release_refused (hf : f.payload = [codeRelease, chanByte c])
    (hrule : releaseRule (s.taken dt rest).reserving f = refusedAs (s.taken dt rest).reserving r) :
    exec (.release dt) s = .next ((s.taken dt rest).replied f r []) :=
  congrArg _ (h.serve_refusing dt (hasCode_of_payload hf) (commonCheck_channel hf (by decide)) hrule)

end

theorem trafficRule_of_channel {f : Frame} {c : Chan} (hf : f.payload = [codeTraffic, chanByte c]) (t : State) :
    trafficRule t f =
      if t.freeze then refusedAs t .frozen
      else if (t.ctl c).state = .held then acceptedAs (t.startTraffic c)
      else refusedAs t .state := by
  rw [trafficRule, Frame.channel_of_payload hf]

theorem releaseRule_of_channel {f : Frame} {c : Chan} (hf : f.payload = [codeRelease, chanByte c]) (t : State) :
    releaseRule t f =
      if t.tripLine then refusedAs t .tripActive
      else if t.freeze then refusedAs t .frozen
      else if (t.ctl c).state = .parked then acceptedAs (t.startRelease c)
      else refusedAs t .state := by
  rw [releaseRule, Frame.channel_of_payload hf]

theorem startListRule_of_beyond {f : Frame} {c : Chan} {hi lo : Byte}
    (hf : f.payload = [codeStartList, chanByte c, hi, lo]) (hbeyond : 0 < hi.toNat) (t : State) :
    startListRule t f = refusedAs t .badIndex := by
  have hindex : ¬ natAt f.payload 2 2 < 256 := by rw [natAt_index hf]; omega
  rw [startListRule, dif_neg hindex]

/-- Settles O60: the common checks row by row, then the freeze, the trip line and the grid rule by rule. -/
theorem refusedRequestsChangeNothing : Obligations.RefusedRequestsChangeNothing := by
  intro dt s f rest htakes u refused
  have hunknown (h : isUnknown f = true) : refused (.unknownRequest dt) .badRequest :=
    htakes.unknownRequest_refused dt h
  refine ⟨fun hf => hunknown ?_, fun code ops hf hnone => hunknown ?_, fun row hrow ops hf => ?_,
    fun c hi lo hf hbeyond => htakes.startList_refused dt hf (startListRule_of_beyond hf hbeyond _), fun c => ?_⟩
  · simp [isUnknown, Frame.code, hf]
  · have hforeign : code ∉ requestCodes := by
      rw [requestRows_codes dt]
      rintro ⟨row, hrow, rfl⟩
      exact hnone row hrow rfl
    simpa [isUnknown, Frame.code_of_payload hf] using hforeign
  · have hknown : row.1 ∈ requestCodes := (requestRows_codes dt _).2 ⟨row, hrow, rfl⟩
    have hrefuses := rowRefuses_of_mem hrow s f rest ops
    rw [requestRows_elapsed hrow] at hrefuses
    refine ⟨fun hlen => ?_, fun hlen hnames hchannel => ?_⟩
    · have hlen' : lenOk f.payload = false := Bool.eq_false_iff.2 (mt (lenOk_iff _).1 hlen)
      exact hrefuses _ htakes hf (commonCheck_of_len hf hlen') (.inl hlen')
    · exact hrefuses _ htakes hf (commonCheck_of_channel hf ((lenOk_iff _).2 hlen) hknown hnames hchannel) (.inr hnames)
  · refine ⟨fun hfrozen => ?_, fun htrip hf => htakes.release_refused dt hf ?_, fun hfree => ?_⟩
    · have hfrozen' : u.reserving.freeze = true := hfrozen
      refine ⟨fun hf => htakes.continueList_refused dt hf ?_, fun hf => htakes.traffic_refused dt hf ?_,
        fun hf htrip => htakes.release_refused dt hf ?_, fun i hf => htakes.startList_refused dt hf ?_⟩
      · rw [continueRule_of_channel hf, if_pos hfrozen']
      · rw [trafficRule_of_channel hf, if_pos hfrozen']
      · have hlevel : ¬ u.reserving.tripLine = true := by rw [show u.reserving.tripLine = false from htrip]; decide
        rw [releaseRule_of_channel hf, if_neg hlevel, if_pos hfrozen']
      · rw [startListRule_of_index hf, if_pos hfrozen']
    · rw [releaseRule_of_channel hf, if_pos (show u.reserving.tripLine = true from htrip)]
    · have hthawed : ¬ u.reserving.freeze = true := by rw [show u.reserving.freeze = false from hfree]; decide
      refine ⟨fun hf hst => htakes.continueList_refused dt hf ?_, fun hf hst => htakes.traffic_refused dt hf ?_,
        fun hf htrip hst => htakes.release_refused dt hf ?_,
        fun i hf hheld htraffic hsuspended => htakes.startList_refused dt hf ?_⟩
      · rw [continueRule_of_channel hf, if_neg hthawed, if_neg (by exact hst)]
      · rw [trafficRule_of_channel hf, if_neg hthawed, if_neg (by exact hst)]
      · have hlevel : ¬ u.reserving.tripLine = true := by rw [show u.reserving.tripLine = false from htrip]; decide
        rw [releaseRule_of_channel hf, if_neg hlevel, if_neg hthawed, if_neg (by exact hst)]
      · have hbars : ¬ (s.ctl c).state.admitsStart = true := by
          rw [ChanState.admitsStart_iff, ← or_assoc (a := _ = ChanState.trafficLive), ← ChanState.isTraffic_iff]
          rintro (h | h | h)
          · exact hheld h
          · exact absurd h (by rw [htraffic]; decide)
          · exact hsuspended h
        rw [startListRule_of_index hf, if_neg hthawed, if_neg (by exact hbars)]

end Sys2Proof.Machine
end


section
/-! Records and their bytes (R102, R171, section 8.7): reading a record in range from its bytes, and the bytes from what
was read. -/

namespace Sys2Proof.Machine

/-! ## Fields -/

theorem natAt_last {k n : Nat} (hn : n < 256 ^ k) : natAt (natBytes k n) 0 k = n := by
  simpa using natAt_zero hn []

theorem byteAt_here (x : Byte) (b : List Byte) : byteAt (x :: b) 0 = x := rfl

theorem byteAt_pass (x : Byte) (b : List Byte) {off : Nat} (h : 0 < off) :
    byteAt (x :: b) off = byteAt b (off - 1) := by
  obtain ⟨off, rfl⟩ := Nat.exists_eq_succ_of_ne_zero h.ne'
  rfl

theorem natAt_pass (x : Byte) (b : List Byte) {off : Nat} (j : Nat) (h : 0 < off) :
    natAt (x :: b) off j = natAt b (off - 1) j := by
  obtain ⟨off, rfl⟩ := Nat.exists_eq_succ_of_ne_zero h.ne'
  rfl

theorem bytesNat_lt (l : List Byte) : bytesNat l < 256 ^ l.length := by
  induction l with
  | nil => decide
  | cons b l ih =>
    rw [bytesNat_cons, List.length_cons, pow_succ]
    have hb : b.toNat < 256 := b.isLt
    calc b.toNat * 256 ^ l.length + bytesNat l < b.toNat * 256 ^ l.length + 256 ^ l.length := by omega
      _ = (b.toNat + 1) * 256 ^ l.length := by ring
      _ ≤ 256 * 256 ^ l.length := Nat.mul_le_mul_right _ hb
      _ = 256 ^ l.length * 256 := Nat.mul_comm ..

theorem natBytes_mul_add (k m n : Nat) : natBytes k (m * 256 ^ k + n) = natBytes k n := by
  induction k generalizing m with
  | zero => rfl
  | succ k ih =>
    have hsplit : m * 256 ^ (k + 1) + n = m * 256 * 256 ^ k + n := by ring
    have hdiv : (m * 256 * 256 ^ k + n) / 256 ^ k = n / 256 ^ k + 256 * m := by
      rw [Nat.add_comm, Nat.add_mul_div_right _ _ (by positivity), Nat.mul_comm m]
    have hbyte : BitVec.ofNat 8 (n / 256 ^ k + 256 * m) = BitVec.ofNat 8 (n / 256 ^ k) := by
      apply BitVec.eq_of_toNat_eq
      simp [Nat.add_mul_mod_self_left]
    rw [natBytes, natBytes, hsplit, hdiv, hbyte, ih]

/-- The number that bytes hold is written as those bytes. -/
theorem natBytes_bytesNat (l : List Byte) : natBytes l.length (bytesNat l) = l := by
  induction l with
  | nil => rfl
  | cons b l ih =>
    have hdiv : (b.toNat * 256 ^ l.length + bytesNat l) / 256 ^ l.length = b.toNat := by
      rw [Nat.add_comm, Nat.add_mul_div_right _ _ (by positivity), Nat.div_eq_of_lt (bytesNat_lt l), Nat.zero_add]
    rw [bytesNat_cons, List.length_cons, natBytes, hdiv, natBytes_mul_add, ih, BitVec.ofNat_toNat, BitVec.setWidth_eq]

/-- A field written back before the rest of the bytes. -/
theorem field_append {l : List Byte} {off k next : Nat} (hnext : next = off + k) (hwithin : next ≤ l.length) :
    natBytes k (natAt l off k) ++ l.drop next = l.drop off := by
  subst hnext
  have hlen : (bytesAt l off k).length = k := by rw [bytesAt, List.length_take, List.length_drop]; omega
  have hfield : natBytes k (natAt l off k) = bytesAt l off k := by
    have hback := natBytes_bytesNat (bytesAt l off k)
    rwa [hlen] at hback
  rw [hfield, bytesAt, ← List.drop_drop, List.take_append_drop]

theorem byte_append {l : List Byte} {off next : Nat} (hnext : next = off + 1) (hwithin : next ≤ l.length) :
    byteAt l off :: l.drop next = l.drop off := by
  subst hnext
  have hlt : off < l.length := by omega
  rw [List.drop_eq_getElem_cons hlt, byteAt, List.getD_eq_getElem _ _ hlt]

/-! ## Codes of one byte -/

theorem decodeYesNo_eq_some {b : Byte} {x : Bool} : decodeYesNo b = some x ↔ b = yesNoByte x := by
  rw [decodeYesNo]
  cases x <;> split_ifs <;> simp_all [yesNoByte]

theorem decodeLane_eq_some {b : Byte} {x : Lane} : decodeLane b = some x ↔ b = x.byte := by
  rw [decodeLane]
  cases x <;> split_ifs <;> simp_all [Lane.byte]

theorem decodeOrder_eq_some {b : Byte} {x : NoticeOrder} : decodeOrder b = some x ↔ b = x.byte := by
  rw [decodeOrder]
  cases x <;> split_ifs <;> simp_all [NoticeOrder.byte]

theorem within_iff (lo hi x : Nat) : within lo hi x = true ↔ lo ≤ x ∧ x ≤ hi := by simp [within]

/-! ## SHAFT -/

theorem Shaft.encode_length (r : Shaft) : r.encode.length = 30 := by simp [Shaft.encode]

theorem decodeShaft_encode {r : Shaft} (h : r.inRange = true) : decodeShaft r.encode = some r := by
  have hbounds := h
  simp only [Shaft.inRange, LaneFigures.inRange, Bool.and_eq_true, within_iff] at hbounds
  obtain ⟨⟨⟨hfloor, -⟩, ⟨hatop, habottom⟩, hamargin⟩, ⟨hbtop, hbbottom⟩, hbmargin⟩ := hbounds
  have horder : decodeOrder r.order.byte = some r.order := decodeOrder_eq_some.2 rfl
  simp only [decodeShaft, Shaft.encode, List.append_assoc, List.cons_append, List.nil_append]
  simp (disch := omega) only [natAt_skip, natAt_zero, natAt_pass, byteAt_skip, byteAt_pass, byteAt_here, Nat.reduceSub,
    horder]
  simp [h]

/-- The last byte is what is left of the bytes. -/
theorem byte_last {l : List Byte} {off : Nat} (h : l.length = off + 1) : [byteAt l off] = l.drop off := by
  rw [← byte_append (l := l) (off := off) rfl h.ge, List.drop_of_length_le h.le]

/-- The last field is what is left of the bytes. -/
theorem field_last {l : List Byte} {off k : Nat} (h : l.length = off + k) :
    natBytes k (natAt l off k) = l.drop off := by
  rw [← field_append (l := l) (off := off) (k := k) rfl h.ge, List.drop_of_length_le h.le, List.append_nil]

theorem encode_of_decodeShaft {l : List Byte} {r : Shaft} (hlen : l.length = 30) (h : decodeShaft l = some r) :
    r.inRange = true ∧ r.encode = l := by
  simp only [decodeShaft, Option.bind_eq_bind, Option.bind_eq_some_iff, decodeOrder_eq_some] at h
  obtain ⟨order, horder, hread⟩ := h
  split at hread
  · cases hread
    refine ⟨‹_›, ?_⟩
    simp only [Shaft.encode, List.append_assoc, List.cons_append, List.nil_append, ← horder]
    simp (disch := omega) only [byte_last, field_append, byte_append, List.drop_zero]
  · cases hread

/-! ## ZONES -/

theorem Zone.encode_length (z : Zone) : z.encode.length = 9 := by simp [Zone.encode]

theorem decodeZone_encode {z : Zone} (h : z.inRange = true) : decodeZone z.encode = some z := by
  have hbounds := h
  simp only [Zone.inRange, Bool.and_eq_true, within_iff] at hbounds
  obtain ⟨⟨htop, hlimitA⟩, hlimitB⟩ := hbounds
  have hmark : decodeYesNo (yesNoByte z.noDwell) = some z.noDwell := decodeYesNo_eq_some.2 rfl
  simp only [decodeZone, Zone.encode, List.append_assoc]
  simp (disch := omega) only [natAt_skip, natAt_zero, byteAt_skip, byteAt_here, Nat.reduceSub, hmark]
  simp [h]

theorem encode_of_decodeZone {l : List Byte} {z : Zone} (hlen : l.length = 9) (h : decodeZone l = some z) :
    z.inRange = true ∧ z.encode = l := by
  simp only [decodeZone, Option.bind_eq_bind, Option.bind_eq_some_iff, decodeYesNo_eq_some] at h
  obtain ⟨mark, hmark, hread⟩ := h
  split at hread
  · cases hread
    refine ⟨‹_›, ?_⟩
    simp only [Zone.encode, List.append_assoc, ← hmark]
    simp (disch := omega) only [byte_last, field_append, List.drop_zero]
  · cases hread

/-! ## LANDMARKS -/

theorem Landmark.encode_length (m : Landmark) : m.encode.length = 8 := by simp [Landmark.encode]

theorem decodeLandmark_encode {m : Landmark} (h : m.inRange = true) : decodeLandmark m.encode = some m := by
  have hbounds := h
  simp only [Landmark.inRange, Bool.and_eq_true, within_iff] at hbounds
  obtain ⟨hdepth, hwidth⟩ := hbounds
  have hpresent : decodeYesNo (yesNoByte m.present) = some m.present := decodeYesNo_eq_some.2 rfl
  have hlane : decodeLane m.lane.byte = some m.lane := decodeLane_eq_some.2 rfl
  simp only [decodeLandmark, Landmark.encode, List.cons_append, List.nil_append]
  simp (disch := omega) only [natAt_pass, natAt_skip, natAt_zero, natAt_last, byteAt_pass, byteAt_here, Nat.reduceSub,
    hpresent, hlane]
  simp [h]

theorem encode_of_decodeLandmark {l : List Byte} {m : Landmark} (hlen : l.length = 8) (h : decodeLandmark l = some m) :
    m.inRange = true ∧ m.encode = l := by
  simp only [decodeLandmark, Option.bind_eq_bind, Option.bind_eq_some_iff, decodeYesNo_eq_some,
    decodeLane_eq_some] at h
  obtain ⟨present, hpresent, lane, hlane, hread⟩ := h
  split at hread
  · cases hread
    refine ⟨‹_›, ?_⟩
    simp only [Landmark.encode, List.cons_append, List.nil_append, ← hpresent, ← hlane]
    simp (disch := omega) only [field_last, field_append, byte_append, List.drop_zero]
  · cases hread

/-! ## HOISTS -/

theorem Hoist.encode_length (h : Hoist) : h.encode.length = 41 := by
  unfold Hoist.encode
  simp

/-- The record that 41 bytes hold, in range or not. -/
def hoistIn (l : List Byte) : Hoist :=
  { addr := byteAt l 0, pitch := natAt l 1 4, compliance := natAt l 5 2, driveLimit := natAt l 7 2,
    aR := natAt l 9 2, aS := natAt l 11 2, crawl := natAt l 13 2, doubtful := natAt l 15 2,
    nr := natAt l 17 1, window := natAt l 18 1, toothHold := natAt l 19 2, emission := natAt l 21 1,
    demandTimeout := natAt l 22 2, brakeConfirm := natAt l 24 2, prove := natAt l 26 2,
    standstill := natAt l 28 1, arrival := natAt l 29 2, fMin := natAt l 31 2, body := natAt l 33 2,
    snap := natAt l 35 2, doubt := natAt l 37 4 }

theorem decodeHoist_eq (l : List Byte) : decodeHoist l = if (hoistIn l).inRange then some (hoistIn l) else none := rfl

theorem hoistIn_encode {h : Hoist} (hrange : h.inRange = true) : hoistIn h.encode = h := by
  unfold Hoist.encode
  simp only [hoistIn, List.append_assoc, List.cons_append, List.nil_append]
  simp (disch := decide) only [natAt_pass, natAt_skip, byteAt_here, Nat.reduceSub]
  simp only [Hoist.inRange, Bool.and_eq_true, within_iff, decide_eq_true_eq] at hrange
  simp (disch := omega) only [natAt_zero, natAt_last]

theorem decodeHoist_encode {h : Hoist} (hrange : h.inRange = true) : decodeHoist h.encode = some h := by
  rw [decodeHoist_eq, hoistIn_encode hrange, if_pos hrange]

theorem encode_hoistIn {l : List Byte} (hlen : l.length = 41) : (hoistIn l).encode = l := by
  unfold Hoist.encode
  simp only [hoistIn, List.append_assoc, List.cons_append, List.nil_append]
  simp (disch := omega) only [field_last, field_append, byte_append, List.drop_zero]

theorem encode_of_decodeHoist {l : List Byte} {h : Hoist} (hlen : l.length = 41) (hread : decodeHoist l = some h) :
    h.inRange = true ∧ h.encode = l := by
  rw [decodeHoist_eq, Option.ite_none_right_eq_some, Option.some_inj] at hread
  obtain ⟨hrange, rfl⟩ := hread
  exact ⟨hrange, encode_hoistIn hlen⟩

/-! ## Descriptors -/

theorem Descriptor.encode_length (d : Descriptor) : d.encode.length = 13 := by simp [Descriptor.encode]

theorem decodeNext_fields (m : NextMode) : decodeNext m.fields.1 m.fields.2.1 m.fields.2.2 = some m := by
  cases m <;> rfl

theorem landmarkOf_toNat (n : Fin 64) : landmarkOf (BitVec.ofNat 8 n.val).toNat = some n := by
  have hval : (BitVec.ofNat 8 n.val).toNat = n.val := by rw [BitVec.toNat_ofNat]; omega
  rw [landmarkOf, hval, dif_pos n.isLt]

theorem decodeAction_byte (a : MatchAction) : decodeAction a.byte = some a := by cases a <;> rfl

theorem decodeMatch_fields (w : Option (Fin 64 × MatchAction)) :
    decodeMatch (watchFields w).2.1 (watchFields w).2.1 (watchFields w).1 (watchFields w).2.2 = some w := by
  cases w with
  | none => rfl
  | some x => simp only [watchFields, decodeMatch, landmarkOf_toNat, decodeAction_byte]

/-- The flags byte of a descriptor reads back the flags it was made of (section 8.7). -/
theorem flagsByte_four (b0 b1 b2 b3 : Bool) :
    let x := flagsByte [b0, b1, b2, b3]
    x.getLsbD 0 = b0 ∧ x.getLsbD 1 = b1 ∧ x.getLsbD 2 = b2 ∧ x.getLsbD 3 = b3 ∧ x.toNat < 16 := by
  cases b0 <;> cases b1 <;> cases b2 <;> cases b3 <;> decide

theorem decodeDescriptor_encode {d : Descriptor} (h : d.inRange = true) : decodeDescriptor d.encode = some d := by
  have hbounds := h
  simp only [Descriptor.inRange, Bool.and_eq_true, within_iff] at hbounds
  obtain ⟨⟨htarget, hcruise⟩, hdwell⟩ := hbounds
  obtain ⟨hlink, hmark, haction, hnotify, hflags⟩ :=
    flagsByte_four d.next.fields.2.1 (watchFields d.watch).2.1 (watchFields d.watch).2.1 d.notify
  simp only [decodeDescriptor, Descriptor.encode, List.append_assoc]
  simp (disch := omega) only [natAt_skip, natAt_zero, byteAt_skip, byteAt_pass, byteAt_here, Nat.reduceSub, hlink,
    hmark, haction, hnotify, decodeNext_fields, decodeMatch_fields]
  simp [h, hflags]

/-- Settles O52: field by field, each at its offset. -/
theorem recordsReadBackFromTheirBytes : Obligations.RecordsReadBackFromTheirBytes :=
  ⟨fun _ => decodeShaft_encode, fun _ => decodeZone_encode, fun _ => decodeLandmark_encode,
    fun _ => decodeHoist_encode, fun _ => decodeDescriptor_encode⟩

theorem decodeAction_some {b : Byte} {a : MatchAction} (h : decodeAction b = some a) : b.toNat ≤ 3 := by
  rw [decodeAction] at h
  split_ifs at h <;> simp_all

theorem landmarkOf_some {n : Nat} {i : Fin 64} (h : landmarkOf n = some i) : n < 64 := by
  rw [landmarkOf] at h
  split_ifs at h with hlt
  exact hlt

/-- Match fields that are read are both present or both absent, and in range where present (R104 step 3). -/
theorem decodeMatch_of_some {p q : Bool} {n a : Byte} {w : Option (Fin 64 × MatchAction)}
    (h : decodeMatch p q n a = some w) : p = q ∧ (p = true → n.toNat ≤ 63 ∧ a.toNat ≤ 3) := by
  cases p <;> cases q
  case false.false => exact ⟨rfl, fun hp => absurd hp (by decide)⟩
  case false.true | true.false => cases h
  case true.true =>
    refine ⟨rfl, fun _ => ?_⟩
    cases hn : landmarkOf n.toNat <;> cases ha : decodeAction a <;> simp only [decodeMatch, hn, ha] at h
    case some.some => exact ⟨Nat.le_of_lt_succ (landmarkOf_some hn), decodeAction_some ha⟩
    all_goals cases h

/-- Bytes whose fields are out of range, or whose presence bits do not fit, are no descriptor (R104 step 3). -/
theorem decodeDescriptor_of_bad {l : List Byte} (h : DescriptorBytesBad l) : decodeDescriptor l = none := by
  rw [Option.eq_none_iff_forall_ne_some]
  intro d hread
  simp only [decodeDescriptor, Option.bind_eq_bind, Option.bind_eq_some_iff] at hread
  obtain ⟨mode, hmode, watch, hwatch, hrest⟩ := hread
  split at hrest
  case isFalse => cases hrest
  case isTrue hgood =>
    simp only [Descriptor.inRange, Bool.and_eq_true, within_iff, decide_eq_true_eq] at hgood
    obtain ⟨⟨⟨htarget, hcruise⟩, -⟩, hflags⟩ := hgood
    rcases h with h | h | h | h | h | ⟨hpresent, h⟩ | h
    · omega
    · omega
    · rw [decodeNext] at hmode
      split_ifs at hmode <;> simp_all
    · rw [decodeNext] at hmode
      split_ifs at hmode <;> simp_all
    · exact absurd (decodeMatch_of_some hwatch).1 h
    · obtain ⟨hlandmark, haction⟩ := (decodeMatch_of_some hwatch).2 hpresent
      omega
    · omega

end Sys2Proof.Machine
end


section
/-! Runs of records (R9, R12, R104, R106): reading a run of records from a request's bytes, and writing it to consecutive
entries. -/

namespace Sys2Proof.Machine

/-! ## Reading a run -/

/-- The records that a run was made of are read from it. -/
theorem decodeAll_encoded {α : Type} {dec : List Byte → Option α} {enc : α → List Byte} {size : Nat} {xs : List α}
    (hlen : ∀ x, (enc x).length = size) (hdec : ∀ x ∈ xs, dec (enc x) = some x) :
    decodeAll dec (chunks size xs.length (xs.map enc).flatten) = some xs := by
  induction xs with
  | nil => rfl
  | cons x xs ih =>
    have hrest := ih fun y hy => hdec y (List.mem_cons_of_mem _ hy)
    rw [List.length_cons, List.map_cons, List.flatten_cons, chunks, decodeAll, ← hlen x, List.take_left, List.drop_left,
      hlen x, hdec x List.mem_cons_self, hrest]

/-- A run that is read is the run of the records read. -/
theorem encoded_of_decodeAll {α : Type} {dec : List Byte → Option α} {enc : α → List Byte} {ok : α → Prop} {size : Nat}
    (hdec : ∀ l x, l.length = size → dec l = some x → ok x ∧ enc x = l) {n : Nat} {l : List Byte} {xs : List α}
    (hlen : l.length = size * n) (h : decodeAll dec (chunks size n l) = some xs) :
    (∀ x ∈ xs, ok x) ∧ (xs.map enc).flatten = l := by
  induction n generalizing l xs with
  | zero =>
    cases h
    exact ⟨fun _ hx => absurd hx List.not_mem_nil, (List.eq_nil_of_length_eq_zero hlen).symm⟩
  | succ n ih =>
    rw [Nat.mul_succ] at hlen
    have htake : (l.take size).length = size := by rw [List.length_take]; omega
    have hdrop : (l.drop size).length = size * n := by rw [List.length_drop]; omega
    rw [chunks, decodeAll] at h
    cases hx : dec (l.take size) with
    | none => simp [hx] at h
    | some x =>
      cases hxs : decodeAll dec (chunks size n (l.drop size)) with
      | none => simp [hx, hxs] at h
      | some ys =>
        simp only [hx, hxs, Option.some_inj] at h
        subst h
        obtain ⟨hok, henc⟩ := hdec _ x htake hx
        obtain ⟨hoks, hencs⟩ := ih hdrop hxs
        exact ⟨List.forall_mem_cons.2 ⟨hok, hoks⟩, by
          rw [List.map_cons, List.flatten_cons, henc, hencs, List.take_append_drop]⟩

/-- A run with a record that is not read is not read. -/
theorem decodeAll_of_none {α : Type} {dec : List Byte → Option α} {size n j : Nat} {l : List Byte} (hj : j < n)
    (h : dec ((l.drop (size * j)).take size) = none) : decodeAll dec (chunks size n l) = none := by
  induction n generalizing j l with
  | zero => exact absurd hj (Nat.not_lt_zero j)
  | succ n ih =>
    rw [chunks, decodeAll]
    cases j with
    | zero => rw [Nat.mul_zero, List.drop_zero] at h; simp only [h]
    | succ j =>
      have hrest : decodeAll dec (chunks size n (l.drop size)) = none := by
        refine ih (j := j) (by omega) ?_
        rw [List.drop_drop, Nat.add_comm, ← Nat.mul_succ]
        exact h
      rw [hrest]
      cases dec (l.take size) <;> rfl

/-! ## Writing a run -/

/-- An entry within the run is its record; every other entry stays. -/
theorem getElem_writeRun {α : Type} {n : Nat} (v : Vector α n) (first : Nat) (xs : List α) (k : Nat) (h : k < n) :
    (k < first ∨ first + xs.length ≤ k → (writeRun v first xs)[k] = v[k])
    ∧ (first ≤ k → k < first + xs.length → xs[k - first]? = some (writeRun v first xs)[k]) := by
  induction xs generalizing v first with
  | nil => exact ⟨fun _ => rfl, fun hle hlt => absurd hlt (by simpa using hle)⟩
  | cons x xs ih =>
    obtain ⟨hout, hin⟩ := ih (v.setIfInBounds first x) (first + 1)
    rw [List.length_cons]
    refine ⟨fun hk => ?_, fun hle hlt => ?_⟩
    · rw [writeRun, hout (by omega), Vector.getElem_setIfInBounds_ne h (by omega)]
    · rcases Nat.eq_or_lt_of_le hle with rfl | hbeyond
      · rw [writeRun, hout (.inl (Nat.lt_succ_self _)), Vector.getElem_setIfInBounds_self h, Nat.sub_self]
        rfl
      · rw [writeRun, ← hin hbeyond (by omega), show k - first = k - (first + 1) + 1 by omega]
        rfl

/-- A number of one byte. -/
theorem toNat_ofNat_byte {n : Nat} (h : n < 256) : (BitVec.ofNat 8 n).toNat = n := by
  rw [BitVec.toNat_ofNat]
  omega

end Sys2Proof.Machine
end


section
/-! LIST_WRITE (R104, R105). -/

namespace Sys2Proof.Machine

/-- One of the addressed indices is guarded (R105). -/
theorem State.anyGuarded_iff (s : State) {first count : Nat} (hwithin : first + count ≤ 256) :
    s.anyGuarded first count = true ↔
      ∃ i : Fin 256, first ≤ i.val ∧ i.val < first + count ∧ s.guarded i = true := by
  simp only [State.anyGuarded, List.any_eq_true, List.mem_range]
  constructor
  · rintro ⟨k, hk, hguards⟩
    have hlt : first + k < 256 := by omega
    rw [dif_pos hlt] at hguards
    exact ⟨⟨first + k, hlt⟩, Nat.le_add_right .., Nat.add_lt_add_left hk _, hguards⟩
  · rintro ⟨i, hlow, hhigh, hguards⟩
    have hsum : first + (i.val - first) = i.val := Nat.add_sub_cancel' hlow
    refine ⟨i.val - first, by omega, ?_⟩
    rw [dif_pos (by rw [hsum]; exact i.isLt)]
    exact (congrArg (fun j => s.guarded j = true) (Fin.ext hsum)).mpr hguards

section
variable {f : Frame} {first : Byte} {k : Nat} {ops : List Byte} (hf : f.payload = [codeListWrite, first] ++ ops)
  (hlen : ops.length = 13 * k)
include hf hlen

theorem commonCheck_listWrite (hlow : 1 ≤ k) (hhigh : k ≤ 3) : commonCheck f = none := by
  have htotal : f.payload.length = 2 + 13 * k := by rw [hf, List.length_append, hlen]; rfl
  have hfits : lenOk f.payload = true := by
    rw [lenOk_iff, LenMatches, htotal, hf]
    simp only [List.cons_append, byteAt_here, codeListWrite, List.mem_cons, List.not_mem_nil, or_false]
    exact (show 2 + 13 * k = 15 ∨ 2 + 13 * k = 28 ∨ 2 + 13 * k = 41 by omega)
  exact commonCheck_of_fit hf (by decide) hfits (.inl (by decide))

/-- LIST_WRITE's rule once its descriptors are counted (R104). -/
theorem listWriteRule_eq (t : State) :
    listWriteRule t f =
      if 255 < first.toNat + k - 1 then refusedAs t .badIndex
      else
        (decodeAll decodeDescriptor (chunks 13 k ops)).elim (refusedAs t .badValue) fun ds =>
          if t.anyGuarded first.toNat k then refusedAs t .inUse
          else acceptedAs { t with descs := writeRun t.descs first.toNat ds } := by
  have hcount : carriedDescriptors f.payload = k := by
    rw [carriedDescriptors, hf, List.length_append, hlen, Nat.add_comm, show [codeListWrite, first].length = 2 from rfl]
    omega
  have hfirst : byteAt f.payload 1 = first := by rw [hf]; rfl
  have hrest : f.payload.drop 2 = ops := by rw [hf]; rfl
  rw [listWriteRule, hcount, hfirst, hrest]
  cases decodeAll decodeDescriptor (chunks 13 k ops) <;> rfl

theorem listWriteRule_of_beyond (t : State) (hbeyond : 256 < first.toNat + k) :
    listWriteRule t f = refusedAs t .badIndex := by
  rw [listWriteRule_eq hf hlen, if_pos (by omega)]

theorem listWriteRule_of_bad (t : State) (hwithin : first.toNat + k ≤ 256) {j : Nat} (hj : j < k)
    (hbad : DescriptorBytesBad ((ops.drop (13 * j)).take 13)) : listWriteRule t f = refusedAs t .badValue := by
  rw [listWriteRule_eq hf hlen, if_neg (by omega), decodeAll_of_none hj (decodeDescriptor_of_bad hbad),
    Option.elim_none]

end

section
variable {f : Frame} {first : Byte} {ds : List Descriptor}
  (hf : f.payload = [codeListWrite, first] ++ (ds.map Descriptor.encode).flatten)
  (hrange : ∀ d ∈ ds, d.inRange = true)

theorem descriptors_length (ds : List Descriptor) : (ds.map Descriptor.encode).flatten.length = 13 * ds.length := by
  induction ds with
  | nil => rfl
  | cons d ds ih =>
    rw [List.map_cons, List.flatten_cons, List.length_append, ih, Descriptor.encode_length, List.length_cons]
    omega

include hf hrange

theorem listWriteRule_of_run (t : State) (hwithin : first.toNat + ds.length ≤ 256) :
    listWriteRule t f =
      if t.anyGuarded first.toNat ds.length then refusedAs t .inUse
      else acceptedAs { t with descs := writeRun t.descs first.toNat ds } := by
  have hread : decodeAll decodeDescriptor (chunks 13 ds.length (ds.map Descriptor.encode).flatten) = some ds :=
    decodeAll_encoded Descriptor.encode_length fun d hd => decodeDescriptor_encode (hrange d hd)
  rw [listWriteRule_eq hf (descriptors_length ds), if_neg (by omega), hread, Option.elim_some]

end

/-- Settles O53: a run in range meets only the guards; the other two refusals come before them. -/
theorem listWriteReplacesUnguardedDescriptors : Obligations.ListWriteReplacesUnguardedDescriptors := by
  intro dt s f rest htakes refused
  have hserved {v : State} {r : Result} (hcode : hasCode codeListWrite f = true) (hcheck : commonCheck f = none)
      (hline : v.resetLine = .negated)
      (hrule : listWriteRule (s.taken dt rest).reserving f = ⟨v.reserving, r, []⟩) :
      exec (.listWrite dt) s = .next (v.replied f r []) :=
    congrArg _ (htakes.serve_replied dt hcode hcheck hline hrule)
  have hline : (s.taken dt rest).resetLine = .negated := htakes.taken_line dt
  refine ⟨fun first ds hlow hhigh hwithin hrange hf => ?_, fun first k ops hlow hhigh hlen hf => ?_⟩
  · have hfirst : (BitVec.ofNat 8 first).toNat = first := toNat_ofNat_byte (by omega)
    have hcheck := commonCheck_listWrite hf (descriptors_length ds) hlow hhigh
    have hrule := listWriteRule_of_run hf hrange (s.taken dt rest).reserving (by rw [hfirst]; exact hwithin)
    rw [hfirst] at hrule
    have hguards := State.anyGuarded_iff (s.taken dt rest).reserving hwithin
    refine ⟨fun hguarded => hserved (hasCode_of_payload hf) hcheck hline ?_, fun hfree =>
      ⟨writeRun s.descs first ds, getElem_writeRun s.descs first ds,
        hserved (hasCode_of_payload hf) hcheck (by exact hline) ?_⟩⟩
    · rw [hrule, if_pos (hguards.2 hguarded)]
      rfl
    · have hnone : ¬ (s.taken dt rest).reserving.anyGuarded first ds.length = true := by
        rw [hguards]
        rintro ⟨i, hle, hlt, hguarded⟩
        exact absurd ((hfree i hle hlt).symm.trans hguarded) (by decide)
      rw [hrule, if_neg hnone]
      rfl
  · have hcheck := commonCheck_listWrite hf hlen hlow hhigh
    refine ⟨fun hbeyond => hserved (hasCode_of_payload hf) hcheck hline (listWriteRule_of_beyond hf hlen _ hbeyond),
      fun hwithin ⟨j, hj, hbad⟩ =>
        hserved (hasCode_of_payload hf) hcheck hline (listWriteRule_of_bad hf hlen _ hwithin hj hbad)⟩

end Sys2Proof.Machine
end


section
/-! TABLE_WRITE, TABLE_READ and LIST_READ (R9, R10, R12, R106). -/

namespace Sys2Proof.Machine

/-! ## TABLE_WRITE -/

theorem decodeTable_code (t : Table) : decodeTable t.code = some t := by cases t <;> rfl

/-- `f` is a TABLE_WRITE of `k` whole records of table `t` from entry `first` on (section 8.7). -/
structure Frame.Writes (f : Frame) (t : Table) (first : Byte) (k : Nat) : Prop where
  payload : ∃ ops, f.payload = [codeTableWrite, t.code, first] ++ ops
  length : f.payload.length = t.recordsAt + t.recordSize * k
  nonempty : 1 ≤ k
  most : k ≤ t.most

theorem Table.recordSize_pos (t : Table) : 0 < t.recordSize := by cases t <;> decide

section
variable {f : Frame} {t : Table} {first : Byte} {k : Nat} (h : f.Writes t first k)
include h

theorem Frame.Writes.hasCode : Machine.hasCode codeTableWrite f = true := by
  obtain ⟨ops, hf⟩ := h.payload
  exact hasCode_of_payload hf

theorem Frame.Writes.commonCheck : Machine.commonCheck f = none := by
  obtain ⟨ops, hf⟩ := h.payload
  have hwrite : t.writeLen f.payload.length = true := by
    rw [Table.writeLen, List.any_eq_true]
    refine ⟨k - 1, List.mem_range.2 (by have := h.nonempty; have := h.most; omega), ?_⟩
    rw [beq_iff_eq, Nat.sub_add_cancel h.nonempty]
    exact h.length
  have hthree : 3 ≤ f.payload.length := by rw [hf]; simp
  have hcode : byteAt f.payload 0 = codeTableWrite := by rw [hf]; rfl
  have htable : decodeTable (byteAt f.payload 1) = some t := by rw [hf]; exact decodeTable_code t
  have hfits : lenOk f.payload = true := by
    simp only [lenOk, hcode, htable, if_true, hwrite, hthree, decide_true, Bool.and_self]
  exact commonCheck_of_fit hf (by decide) hfits (.inl (by decide))

theorem Frame.Writes.carried : t.carried f.payload.length = k := by
  rw [Table.carried, h.length, Nat.add_sub_cancel_left, Nat.mul_div_cancel_left _ t.recordSize_pos]

theorem Frame.Writes.carriedRecords_eq :
    carriedRecords t f.payload = chunks t.recordSize k (f.payload.drop t.recordsAt) := by
  rw [carriedRecords, h.carried]

/-- TABLE_WRITE's rule once its table and its entries are read (R9). -/
theorem Frame.Writes.rule (u : State) :
    tableWriteRule u f =
      if t.size < first.toNat + k then refusedAs u .badIndex
      else (u.shadow.written t first.toNat f.payload).elim (refusedAs u .badValue) fun b =>
        acceptedAs { u with shadow := b, shadowDiffers := true } := by
  obtain ⟨ops, hf⟩ := h.payload
  have htable : decodeTable (byteAt f.payload 1) = some t := by rw [hf]; exact decodeTable_code t
  have hfirst : byteAt f.payload 2 = first := by rw [hf]; rfl
  simp only [tableWriteRule, htable, hfirst, h.carried]
  cases u.shadow.written t first.toNat f.payload <;> rfl

variable {s : State} {rest : List Frame} (htakes : s.Takes f rest) (dt : Nat)
include htakes

theorem Frame.Writes.exec_badIndex (hbeyond : t.size < first.toNat + k) :
    exec (.tableWrite dt) s = .next ((s.taken dt rest).replied f .badIndex []) :=
  congrArg _ (htakes.serve_refusing dt h.hasCode h.commonCheck (by rw [h.rule, if_pos hbeyond]))

theorem Frame.Writes.exec_badValue (hwithin : first.toNat + k ≤ t.size)
    (hnone : s.shadow.written t first.toNat f.payload = none) :
    exec (.tableWrite dt) s = .next ((s.taken dt rest).replied f .badValue []) := by
  refine congrArg _ (htakes.serve_refusing dt h.hasCode h.commonCheck ?_)
  rw [h.rule, if_neg (by omega), show (s.taken dt rest).reserving.shadow = s.shadow from rfl, hnone, Option.elim_none]

theorem Frame.Writes.exec_ok (hwithin : first.toNat + k ≤ t.size) {b : Bank}
    (hsome : s.shadow.written t first.toNat f.payload = some b) :
    exec (.tableWrite dt) s = .next
      (({ s.taken dt rest with shadow := b, shadowDiffers := true } : State).replied f .ok []) := by
  refine congrArg _ (htakes.serve_replied dt h.hasCode h.commonCheck (by exact htakes.taken_line dt) ?_)
  rw [h.rule, if_neg (by omega), show (s.taken dt rest).reserving.shadow = s.shadow from rfl, hsome, Option.elim_some]
  rfl

end

/-! ## What a TABLE_WRITE makes of SHADOW -/

/-- A run of one record. -/
theorem decodeAll_one {α : Type} (dec : List Byte → Option α) {size : Nat} {l : List Byte} (hlen : l.length = size) :
    decodeAll dec (chunks size 1 l) = (dec l).map fun x => [x] := by
  simp only [chunks, decodeAll, List.take_of_length_le hlen.le]
  cases dec l <;> rfl

/-- Bytes that are no run of records in range are not read. -/
theorem decodeAll_of_foreign {α : Type} {dec : List Byte → Option α} {enc : α → List Byte} {ok : α → Prop}
    {size : Nat} (hdec : ∀ l x, l.length = size → dec l = some x → ok x ∧ enc x = l) {n : Nat} {l : List Byte}
    (hlen : l.length = size * n) (hforeign : ∀ xs : List α, (∀ x ∈ xs, ok x) → l ≠ (xs.map enc).flatten) :
    decodeAll dec (chunks size n l) = none := by
  rw [Option.eq_none_iff_forall_ne_some]
  intro xs hread
  obtain ⟨hok, henc⟩ := encoded_of_decodeAll hdec hlen hread
  exact hforeign xs hok henc.symm

section
variable {f : Frame} {first : Byte} {ops : List Byte}

theorem Frame.writes_shaft (hf : f.payload = [codeTableWrite, 0x00#8, first] ++ ops) (hlen : ops.length = 30) :
    f.Writes .shaft first 1 :=
  ⟨⟨ops, hf⟩, by rw [hf, List.length_append, hlen]; rfl, le_refl _, le_refl _⟩

theorem Frame.writes_zones {k : Nat} (hf : f.payload = [codeTableWrite, 0x01#8, first] ++ ops)
    (hlen : ops.length = 1 + 9 * k) (hlow : 1 ≤ k) (hhigh : k ≤ 4) : f.Writes .zones first k :=
  ⟨⟨ops, hf⟩, by
    rw [hf, List.length_append, hlen]
    show 3 + (1 + 9 * k) = 4 + 9 * k
    omega, hlow, hhigh⟩

theorem Frame.writes_landmarks {k : Nat} (hf : f.payload = [codeTableWrite, 0x02#8, first] ++ ops)
    (hlen : ops.length = 8 * k) (hlow : 1 ≤ k) (hhigh : k ≤ 5) : f.Writes .landmarks first k :=
  ⟨⟨ops, hf⟩, by rw [hf, List.length_append, hlen]; rfl, hlow, hhigh⟩

theorem Frame.writes_hoists (hf : f.payload = [codeTableWrite, 0x03#8, first] ++ ops) (hlen : ops.length = 41) :
    f.Writes .hoists first 1 :=
  ⟨⟨ops, hf⟩, by rw [hf, List.length_append, hlen]; rfl, le_refl _, le_refl _⟩

variable (b : Bank) (n : Nat)

theorem Bank.written_shaft (hf : f.payload = [codeTableWrite, 0x00#8, first] ++ ops) (hlen : ops.length = 30) :
    b.written .shaft n f.payload = (decodeShaft ops).map fun r => { b with shaft := r } := by
  have hdrop : f.payload.drop Table.shaft.recordsAt = ops := by rw [hf]; rfl
  rw [Bank.written, (Frame.writes_shaft hf hlen).carriedRecords_eq, hdrop, decodeAll_one decodeShaft (by exact hlen)]
  cases decodeShaft ops <;> rfl

theorem Bank.written_hoists (hf : f.payload = [codeTableWrite, 0x03#8, first] ++ ops) (hlen : ops.length = 41) :
    b.written .hoists n f.payload = (decodeHoist ops).map fun h => { b with hoists := b.hoists.writeAt n [h] } := by
  have hdrop : f.payload.drop Table.hoists.recordsAt = ops := by rw [hf]; rfl
  rw [Bank.written, (Frame.writes_hoists hf hlen).carriedRecords_eq, hdrop, decodeAll_one decodeHoist (by exact hlen)]
  cases decodeHoist ops <;> rfl

theorem Bank.written_landmarks {k : Nat} (hf : f.payload = [codeTableWrite, 0x02#8, first] ++ ops)
    (hlen : ops.length = 8 * k) (hlow : 1 ≤ k) (hhigh : k ≤ 5) :
    b.written .landmarks n f.payload =
      (decodeAll decodeLandmark (chunks 8 k ops)).map fun xs => { b with landmarks := writeRun b.landmarks n xs } := by
  have hdrop : f.payload.drop Table.landmarks.recordsAt = ops := by rw [hf]; rfl
  rw [Bank.written, (Frame.writes_landmarks hf hlen hlow hhigh).carriedRecords_eq, hdrop]
  rfl

theorem Bank.written_zones {k : Nat} {count : Byte} (hf : f.payload = [codeTableWrite, 0x01#8, first] ++ (count :: ops))
    (hlen : ops.length = 9 * k) (hlow : 1 ≤ k) (hhigh : k ≤ 4) :
    b.written .zones n f.payload =
      if within 1 32 count.toNat then
        (decodeAll decodeZone (chunks 9 k ops)).map fun xs =>
          { b with zoneCount := count.toNat, zones := writeRun b.zones n xs }
      else none := by
  have hwrites : f.Writes .zones first k := Frame.writes_zones hf (by rw [List.length_cons]; omega) hlow hhigh
  have hdrop : f.payload.drop Table.zones.recordsAt = ops := by rw [hf]; rfl
  have hcount : byteAt f.payload 3 = count := by rw [hf]; rfl
  rw [Bank.written, hwrites.carriedRecords_eq, hdrop, hcount]
  rfl

end

theorem Quad.writeAt_chanByte {α : Type} (q : Quad α) (c : Chan) (x : α) :
    q.writeAt (chanByte c).toNat [x] = q.set c x := by
  cases c <;> rfl

theorem chanByte_toNat_le (c : Chan) : (chanByte c).toNat ≤ 3 := by cases c <;> decide

theorem zones_length (zs : List Zone) : (zs.map Zone.encode).flatten.length = 9 * zs.length := by
  induction zs with
  | nil => rfl
  | cons z zs ih =>
    rw [List.map_cons, List.flatten_cons, List.length_append, ih, Zone.encode_length, List.length_cons]
    omega

theorem landmarks_length (ms : List Landmark) : (ms.map Landmark.encode).flatten.length = 8 * ms.length := by
  induction ms with
  | nil => rfl
  | cons m ms ih =>
    rw [List.map_cons, List.flatten_cons, List.length_append, ih, Landmark.encode_length, List.length_cons]
    omega

/-- A table operand that names none (section 8.7). -/
theorem decodeTable_of_above {table : Byte} (h : 3 < table.toNat) : decodeTable table = none := by
  rw [decodeTable]
  split_ifs <;> simp_all

theorem State.Takes.tableWrite_noTable {s : State} {f : Frame} {rest : List Frame} (htakes : s.Takes f rest) (dt : Nat)
    {table : Byte} {ops : List Byte} (hf : f.payload = [codeTableWrite, table] ++ ops) (htable : 3 < table.toNat)
    (hlen : 1 ≤ ops.length) : exec (.tableWrite dt) s = .next ((s.taken dt rest).replied f .badValue []) := by
  have hnone : decodeTable (byteAt f.payload 1) = none := by rw [hf]; exact decodeTable_of_above htable
  have hthree : 3 ≤ f.payload.length := by rw [hf, List.length_append, List.length_cons]; simp; omega
  have hcode : byteAt f.payload 0 = codeTableWrite := by rw [hf]; rfl
  have hfits : lenOk f.payload = true := by
    simp only [lenOk, hcode, hnone, if_true, hthree, decide_true, Bool.and_self]
  refine congrArg _ (htakes.serve_refusing dt (mine := hasCode codeTableWrite) (hasCode_of_payload hf)
    (commonCheck_of_fit hf (by decide) hfits (.inl (by decide))) ?_)
  simp only [tableWriteRule, hnone]

section
variable {s : State} {f : Frame} {rest : List Frame} (htakes : s.Takes f rest) (dt : Nat)
include htakes

theorem State.Takes.tableWrite_zones {first count : Byte} {zs : List Zone} (hlow : 1 ≤ zs.length)
    (hhigh : zs.length ≤ 4) (hwithin : first.toNat + zs.length ≤ 32) (hcount : 1 ≤ count.toNat ∧ count.toNat ≤ 32)
    (hrange : ∀ z ∈ zs, z.inRange = true)
    (hf : f.payload = [codeTableWrite, 0x01#8, first] ++ (count :: (zs.map Zone.encode).flatten)) :
    exec (.tableWrite dt) s = .next
      (({ s.taken dt rest with
        shadow := { s.shadow with zoneCount := count.toNat, zones := writeRun s.shadow.zones first.toNat zs },
        shadowDiffers := true } : State).replied f .ok []) := by
  have hwrites := Frame.writes_zones hf (by rw [List.length_cons, zones_length, Nat.add_comm]) hlow hhigh
  have hread : decodeAll decodeZone (chunks 9 zs.length (zs.map Zone.encode).flatten) = some zs :=
    decodeAll_encoded Zone.encode_length fun z hz => decodeZone_encode (hrange z hz)
  refine hwrites.exec_ok htakes dt hwithin ?_
  rw [Bank.written_zones _ _ hf (zones_length zs) hlow hhigh, if_pos ((within_iff ..).2 hcount), hread, Option.map_some]

theorem State.Takes.tableWrite_badZones {first count : Byte} {k : Nat} {ops : List Byte} (hlow : 1 ≤ k) (hhigh : k ≤ 4)
    (hwithin : first.toNat + k ≤ 32) (hlen : ops.length = 9 * k)
    (hbad : count.toNat = 0 ∨ 32 < count.toNat
      ∨ ∀ zs : List Zone, (∀ z ∈ zs, z.inRange = true) → ops ≠ (zs.map Zone.encode).flatten)
    (hf : f.payload = [codeTableWrite, 0x01#8, first] ++ (count :: ops)) :
    exec (.tableWrite dt) s = .next ((s.taken dt rest).replied f .badValue []) := by
  refine (Frame.writes_zones hf (by rw [List.length_cons, hlen, Nat.add_comm]) hlow hhigh).exec_badValue htakes dt
    hwithin ?_
  rw [Bank.written_zones _ _ hf hlen hlow hhigh]
  by_cases hcount : within 1 32 count.toNat = true
  · obtain ⟨hclow, hchigh⟩ := (within_iff ..).1 hcount
    have hforeign := (hbad.resolve_left (by omega)).resolve_left (by omega)
    rw [if_pos hcount, decodeAll_of_foreign (fun _ _ => encode_of_decodeZone) hlen hforeign, Option.map_none]
  · rw [if_neg hcount]

theorem State.Takes.tableWrite_landmarks {first : Byte} {ms : List Landmark} (hlow : 1 ≤ ms.length)
    (hhigh : ms.length ≤ 5) (hwithin : first.toNat + ms.length ≤ 64) (hrange : ∀ m ∈ ms, m.inRange = true)
    (hf : f.payload = [codeTableWrite, 0x02#8, first] ++ (ms.map Landmark.encode).flatten) :
    exec (.tableWrite dt) s = .next
      (({ s.taken dt rest with
        shadow := { s.shadow with landmarks := writeRun s.shadow.landmarks first.toNat ms },
        shadowDiffers := true } : State).replied f .ok []) := by
  have hread : decodeAll decodeLandmark (chunks 8 ms.length (ms.map Landmark.encode).flatten) = some ms :=
    decodeAll_encoded Landmark.encode_length fun m hm => decodeLandmark_encode (hrange m hm)
  refine (Frame.writes_landmarks hf (landmarks_length ms) hlow hhigh).exec_ok htakes dt hwithin ?_
  rw [Bank.written_landmarks _ _ hf (landmarks_length ms) hlow hhigh, hread, Option.map_some]

theorem State.Takes.tableWrite_badShaft {ops : List Byte} (hlen : ops.length = 30)
    (hforeign : ∀ r : Shaft, r.inRange = true → ops ≠ r.encode)
    (hf : f.payload = [codeTableWrite, 0x00#8, 0x00#8] ++ ops) :
    exec (.tableWrite dt) s = .next ((s.taken dt rest).replied f .badValue []) := by
  refine (Frame.writes_shaft hf hlen).exec_badValue htakes dt (by decide) ?_
  rw [Bank.written_shaft _ _ hf hlen, Option.map_eq_none_iff, Option.eq_none_iff_forall_ne_some]
  intro r hread
  obtain ⟨hrange, henc⟩ := encode_of_decodeShaft hlen hread
  exact hforeign r hrange henc.symm

theorem State.Takes.tableWrite_badHoist {first : Byte} {ops : List Byte} (hwithin : first.toNat ≤ 3)
    (hlen : ops.length = 41) (hforeign : ∀ h : Hoist, h.inRange = true → ops ≠ h.encode)
    (hf : f.payload = [codeTableWrite, 0x03#8, first] ++ ops) :
    exec (.tableWrite dt) s = .next ((s.taken dt rest).replied f .badValue []) := by
  refine (Frame.writes_hoists hf hlen).exec_badValue htakes dt (Nat.add_le_add_right hwithin 1) ?_
  rw [Bank.written_hoists _ _ hf hlen, Option.map_eq_none_iff, Option.eq_none_iff_forall_ne_some]
  intro h hread
  obtain ⟨hrange, henc⟩ := encode_of_decodeHoist hlen hread
  exact hforeign h hrange henc.symm

end

/-- Settles O46: each table's four outcomes by the entries addressed and by the run read from the bytes. -/
theorem tableWriteStoresTheRecordsInShadow : Obligations.TableWriteStoresTheRecordsInShadow := by
  intro dt s f rest htakes writes refused
  refine ⟨fun r hrange hf => ?_, fun first count zs hlow hhigh hwithin hclow hchigh hrange hf => ?_,
    fun first ms hlow hhigh hwithin hrange hf => ?_, fun c h hrange hf => ?_,
    fun table ops htable hlen hf => htakes.tableWrite_noTable dt hf htable hlen,
    fun first ops => ⟨fun hbeyond hlen hf => ?_, fun k hlow hhigh hbeyond hlen hf => ?_,
      fun k hlow hhigh hbeyond hlen hf => ?_, fun hbeyond hlen hf => ?_⟩,
    fun first count ops => ⟨fun hlen hforeign hf => htakes.tableWrite_badShaft dt hlen hforeign hf,
      fun k hlow hhigh hwithin hlen hbad hf => htakes.tableWrite_badZones dt hlow hhigh hwithin hlen hbad hf,
      fun k hlow hhigh hwithin hlen hforeign hf => ?_,
      fun hwithin hlen hforeign hf => htakes.tableWrite_badHoist dt hwithin hlen hforeign hf⟩⟩
  · refine (Frame.writes_shaft hf r.encode_length).exec_ok htakes dt (by decide) ?_
    rw [Bank.written_shaft _ _ hf r.encode_length, decodeShaft_encode hrange]
    rfl
  · have hfirst : (BitVec.ofNat 8 first).toNat = first := toNat_ofNat_byte (by omega)
    have hcount : (BitVec.ofNat 8 count).toNat = count := toNat_ofNat_byte (by omega)
    have hwritten := htakes.tableWrite_zones dt (first := BitVec.ofNat 8 first) (count := BitVec.ofNat 8 count)
      hlow hhigh
      (by rw [hfirst]; exact hwithin) (by rw [hcount]; exact ⟨hclow, hchigh⟩) hrange hf
    rw [hfirst, hcount] at hwritten
    exact ⟨writeRun s.shadow.zones first zs, getElem_writeRun s.shadow.zones first zs, hwritten⟩
  · have hfirst : (BitVec.ofNat 8 first).toNat = first := toNat_ofNat_byte (by omega)
    have hwritten := htakes.tableWrite_landmarks dt (first := BitVec.ofNat 8 first) hlow hhigh
      (by rw [hfirst]; exact hwithin) hrange hf
    rw [hfirst] at hwritten
    exact ⟨writeRun s.shadow.landmarks first ms, getElem_writeRun s.shadow.landmarks first ms, hwritten⟩
  · have hwithin : (chanByte c).toNat + 1 ≤ Table.hoists.size := Nat.add_le_add_right (chanByte_toNat_le c) 1
    refine (Frame.writes_hoists hf h.encode_length).exec_ok htakes dt hwithin ?_
    rw [Bank.written_hoists _ _ hf h.encode_length, decodeHoist_encode hrange, Option.map_some,
      Quad.writeAt_chanByte]
  · exact (Frame.writes_shaft hf hlen).exec_badIndex htakes dt (Nat.lt_add_of_pos_left hbeyond)
  · exact (Frame.writes_zones hf hlen hlow hhigh).exec_badIndex htakes dt hbeyond
  · exact (Frame.writes_landmarks hf hlen hlow hhigh).exec_badIndex htakes dt hbeyond
  · exact (Frame.writes_hoists hf hlen).exec_badIndex htakes dt (Nat.add_lt_add_right hbeyond 1)
  · refine (Frame.writes_landmarks hf hlen hlow hhigh).exec_badValue htakes dt hwithin ?_
    rw [Bank.written_landmarks _ _ hf hlen hlow hhigh,
      decodeAll_of_foreign (fun _ _ => encode_of_decodeLandmark) hlen hforeign, Option.map_none]

/-! ## TABLE_READ and LIST_READ -/

theorem State.bankOf_active (s : State) : s.bankOf 0x00#8 = some s.active := rfl

theorem State.bankOf_shadow (s : State) : s.bankOf 0x01#8 = some s.shadow := rfl

theorem State.bankOf_of_above {s : State} {bank : Byte} (h : 1 < bank.toNat) : s.bankOf bank = none := by
  rw [State.bankOf]
  split_ifs <;> simp_all

section
variable {f : Frame} {bank table first count : Byte} (hf : f.payload = [codeTableRead, bank, table, first, count])
include hf

theorem commonCheck_tableRead : commonCheck f = none :=
  commonCheck_of_fit hf (by decide) (by rw [hf]; rfl) (.inl (by decide))

/-- TABLE_READ's rule once its operands name a bank and a table (R12). -/
theorem tableReadRule_of_table {u : State} {b : Bank} {t : Table} (hbank : u.bankOf bank = some b)
    (htable : decodeTable table = some t) :
    tableReadRule u f =
      if count.toNat = 0 ∨ t.most < count.toNat ∨ t.size < first.toNat + count.toNat then refusedAs u .badIndex
      else ⟨u, .ok, b.readData bank t first.toNat count.toNat⟩ := by
  have hbyteBank : byteAt f.payload 1 = bank := by rw [hf]; rfl
  have hbyteTable : byteAt f.payload 2 = table := by rw [hf]; rfl
  have hbyteFirst : byteAt f.payload 3 = first := by rw [hf]; rfl
  have hbyteCount : byteAt f.payload 4 = count := by rw [hf]; rfl
  simp only [tableReadRule, hbyteBank, hbyteTable, hbyteFirst, hbyteCount, hbank, htable]

theorem tableReadRule_of_none {u : State} (h : 1 < bank.toNat ∨ 3 < table.toNat) :
    tableReadRule u f = refusedAs u .badValue := by
  have hbyteBank : byteAt f.payload 1 = bank := by rw [hf]; rfl
  have hbyteTable : byteAt f.payload 2 = table := by rw [hf]; rfl
  simp only [tableReadRule, hbyteBank, hbyteTable]
  rcases h with hbank | htable
  · rw [State.bankOf_of_above hbank]
  · rw [decodeTable_of_above htable]
    cases u.bankOf bank <;> rfl

variable {s : State} {rest : List Frame} (htakes : s.Takes f rest) (dt : Nat)
include htakes

theorem State.Takes.tableRead_ok {b : Bank} {t : Table} {data : List Byte}
    (hbank : (bank = 0x00#8 ∧ b = s.active) ∨ (bank = 0x01#8 ∧ b = s.shadow)) (htable : decodeTable table = some t)
    (hlow : 1 ≤ count.toNat) (hhigh : count.toNat ≤ t.most) (hwithin : first.toNat + count.toNat ≤ t.size)
    (hdata : b.readData bank t first.toNat count.toNat = data) :
    exec (.tableRead dt) s = .next ((s.taken dt rest).replied f .ok data) := by
  have hbank' : (s.taken dt rest).reserving.bankOf bank = some b := by
    rcases hbank with ⟨rfl, rfl⟩ | ⟨rfl, rfl⟩ <;> rfl
  refine congrArg _ (htakes.serve_replied dt (mine := hasCode codeTableRead) (hasCode_of_payload hf)
    (commonCheck_tableRead hf) (htakes.taken_line dt) ?_)
  rw [tableReadRule_of_table hf hbank' htable, if_neg (by omega), hdata]

theorem State.Takes.tableRead_badIndex {t : Table} (hbank : bank.toNat ≤ 1) (htable : decodeTable table = some t)
    (hbeyond : count.toNat = 0 ∨ t.most < count.toNat ∨ t.size < first.toNat + count.toNat) :
    exec (.tableRead dt) s = .next ((s.taken dt rest).replied f .badIndex []) := by
  have hnamed : ∃ b, (s.taken dt rest).reserving.bankOf bank = some b := by
    have hcases : bank = 0x00#8 ∨ bank = 0x01#8 := by bv_omega
    rcases hcases with rfl | rfl
    · exact ⟨_, State.bankOf_active _⟩
    · exact ⟨_, State.bankOf_shadow _⟩
  obtain ⟨b, hb⟩ := hnamed
  exact congrArg _ (htakes.serve_refusing dt (mine := hasCode codeTableRead) (hasCode_of_payload hf)
    (commonCheck_tableRead hf) (by rw [tableReadRule_of_table hf hb htable, if_pos hbeyond]))

theorem State.Takes.tableRead_badValue (h : 1 < bank.toNat ∨ 3 < table.toNat) :
    exec (.tableRead dt) s = .next ((s.taken dt rest).replied f .badValue []) :=
  congrArg _ (htakes.serve_refusing dt (mine := hasCode codeTableRead) (hasCode_of_payload hf)
    (commonCheck_tableRead hf) (tableReadRule_of_none hf h))

end

section
variable {f : Frame} {first count : Byte} (hf : f.payload = [codeListRead, first, count])
include hf

/-- LIST_READ's rule once its operands are read (R106). -/
theorem listReadRule_eq (u : State) :
    listReadRule u f =
      if count.toNat = 0 ∨ 3 < count.toNat ∨ 255 < first.toNat + count.toNat - 1 then refusedAs u .badIndex
      else ⟨u, .ok, [BitVec.ofNat 8 first.toNat, BitVec.ofNat 8 count.toNat]
        ++ ((readRun u.descs first.toNat count.toNat).map Descriptor.encode).flatten⟩ := by
  have hbyteFirst : byteAt f.payload 1 = first := by rw [hf]; rfl
  have hbyteCount : byteAt f.payload 2 = count := by rw [hf]; rfl
  rw [listReadRule, hbyteFirst, hbyteCount]

theorem State.Takes.listRead_replied {s : State} {rest : List Frame} (htakes : s.Takes f rest) (dt : Nat) {r : Result}
    {data : List Byte}
    (hrule : listReadRule (s.taken dt rest).reserving f = ⟨(s.taken dt rest).reserving, r, data⟩) :
    exec (.listRead dt) s = .next ((s.taken dt rest).replied f r data) :=
  congrArg _ (htakes.serve_replied dt (mine := hasCode codeListRead) (hasCode_of_payload hf)
    (commonCheck_of_fit hf (by decide) (by rw [hf]; rfl) (.inl (by decide))) (htakes.taken_line dt) hrule)

end

/-- Settles O47: the data of each table's reply, then the refusals. -/
theorem readsReplyWithTheRecordsAsTheyStand : Obligations.ReadsReplyWithTheRecordsAsTheyStand := by
  intro dt s f rest htakes u
  refine ⟨fun bank b hbank => ?_, fun first count hlow hhigh hwithin hf => ?_, fun bank table first count hf => ?_,
    fun first count hf hbeyond => ?_⟩
  · intro reads
    refine ⟨fun hf => ?_, fun first count hlow hhigh hwithin hzones hf => ?_,
      fun first count hlow hhigh hwithin hf => ?_, fun c hf => ?_⟩
    · exact htakes.tableRead_ok hf dt hbank (t := .shaft) rfl (by decide) (by decide) (by decide) rfl
    · have hfirst : (BitVec.ofNat 8 first).toNat = first := toNat_ofNat_byte (by omega)
      have hcount : (BitVec.ofNat 8 count).toNat = count := toNat_ofNat_byte (by omega)
      refine htakes.tableRead_ok hf dt hbank (t := .zones) rfl (by omega) (by rw [hcount]; exact hhigh)
        (by rw [hfirst, hcount]; exact hwithin) ?_
      rw [hfirst, hcount, Bank.readData, if_pos rfl]
      simp only [natBytes, pow_zero, Nat.div_one]
      rfl
    · have hfirst : (BitVec.ofNat 8 first).toNat = first := toNat_ofNat_byte (by omega)
      have hcount : (BitVec.ofNat 8 count).toNat = count := toNat_ofNat_byte (by omega)
      refine htakes.tableRead_ok hf dt hbank (t := .landmarks) rfl (by omega) (by rw [hcount]; exact hhigh)
        (by rw [hfirst, hcount]; exact hwithin) ?_
      rw [hfirst, hcount]
      rfl
    · refine htakes.tableRead_ok hf dt hbank (t := .hoists) rfl (by decide) (by decide)
        (Nat.add_le_add_right (chanByte_toNat_le c) 1) ?_
      cases c <;> rfl
  · have hfirst : (BitVec.ofNat 8 first).toNat = first := toNat_ofNat_byte (by omega)
    have hcount : (BitVec.ofNat 8 count).toNat = count := toNat_ofNat_byte (by omega)
    refine htakes.listRead_replied hf dt ?_
    rw [listReadRule_eq hf, hfirst, hcount, if_neg (by omega)]
    rfl
  · intro refused beyond
    exact ⟨htakes.tableRead_badValue hf dt, fun hbank =>
      ⟨fun htable => htakes.tableRead_badIndex hf dt hbank (t := .shaft) (by rw [htable]; rfl),
        fun htable => htakes.tableRead_badIndex hf dt hbank (t := .zones) (by rw [htable]; rfl),
        fun htable => htakes.tableRead_badIndex hf dt hbank (t := .landmarks) (by rw [htable]; rfl),
        fun htable => htakes.tableRead_badIndex hf dt hbank (t := .hoists) (by rw [htable]; rfl)⟩⟩
  · refine htakes.listRead_replied hf dt ?_
    rw [listReadRule_eq hf, if_pos (by omega)]
    rfl

end Sys2Proof.Machine
end


section
/-! The consistency checks (R16, R19): what each function of the checks reports is the first failure of its part, and
the parts follow one another. -/

namespace Sys2Proof.Machine

/-! ## The order of the checks -/

theorem NoLater.refl (k e : Nat) : NoLater k e k e := .inr ⟨rfl, Nat.le_refl _⟩

theorem NoLater.of_lt {k e k' e' : Nat} (hk : k < 8) (h : k < k') : NoLater k e k' e' := by
  rw [NoLater]
  by_cases hk' : k' < 8
  · simp [hk, hk', h]
  · simp only [hk, hk', if_true, if_false]
    omega

theorem NoLater.of_le {k e e' : Nat} (hk : k < 8) (h : e ≤ e') : NoLater k e k e' := by
  simp [NoLater, hk, h]

theorem NoLater.of_hoist {k e k' e' : Nat} (hk : 8 ≤ k) (hk' : 8 ≤ k') (h : e < e' ∨ (e = e' ∧ k ≤ k')) :
    NoLater k e k' e' := by
  simp only [NoLater, Nat.not_lt.2 hk, Nat.not_lt.2 hk', if_false]
  omega

/-- Two failures of which neither is later are the same. -/
theorem NoLater.antisymm {k e k' e' : Nat} (h : NoLater k e k' e') (h' : NoLater k' e' k e) : k = k' ∧ e = e' := by
  simp only [NoLater] at h h'
  by_cases hk : k < 8 <;> by_cases hk' : k' < 8 <;> simp only [hk, hk', if_true, if_false] at h h' <;> omega

/-! ## Reports -/

/-- `x` is what a search through the failures of `F` reports: the first of them, or nothing where there is none. -/
structure Reports (F : Nat → Nat → Prop) (x : Option Failure) : Prop where
  none : x = none → ∀ k e, ¬ F k e
  fails : ∀ y, x = some y → F y.check y.entry
  first : ∀ y, x = some y → ∀ k e, F k e → NoLater y.check y.entry k e
  table : ∀ y, x = some y → y.table = checkTable y.check

theorem Reports.of_none {F : Nat → Nat → Prop} (h : ∀ k e, ¬ F k e) : Reports F Option.none :=
  ⟨fun _ => h, fun _ hy => (by cases hy), fun _ hy => (by cases hy), fun _ hy => (by cases hy)⟩

theorem Reports.of_some {F : Nat → Nat → Prop} {y : Failure} (hfails : F y.check y.entry)
    (hfirst : ∀ k e, F k e → NoLater y.check y.entry k e) (htable : y.table = checkTable y.check) :
    Reports F (some y) :=
  ⟨fun h => (by cases h), fun _ hy => Option.some.inj hy ▸ hfails, fun _ hy => Option.some.inj hy ▸ hfirst,
    fun _ hy => Option.some.inj hy ▸ htable⟩

/-- One part of the checks after another. -/
theorem Reports.or {F G : Nat → Nat → Prop} {x y : Option Failure} (hF : Reports F x) (hG : Reports G y)
    (hbefore : ∀ k e k' e', F k e → G k' e' → NoLater k e k' e') :
    Reports (fun k e => F k e ∨ G k e) (x.or y) := by
  cases x with
  | none =>
    have hnone := hF.none rfl
    exact ⟨fun h k e => not_or.2 ⟨hnone k e, hG.none h k e⟩, fun z hz => .inr (hG.fails z hz),
      fun z hz k e h => hG.first z hz k e (h.resolve_left (hnone k e)), hG.table⟩
  | some z =>
    exact .of_some (.inl (hF.fails z rfl))
      (fun k e h => h.elim (hF.first z rfl k e) (hbefore _ _ k e (hF.fails z rfl))) (hF.table z rfl)

theorem Reports.congr {F G : Nat → Nat → Prop} {x : Option Failure} (h : Reports F x) (hiff : ∀ k e, F k e ↔ G k e) :
    Reports G x := by
  have hsame : F = G := funext fun k => funext fun e => propext (hiff k e)
  exact hsame ▸ h

/-- A report names at most one failure. -/
theorem Reports.eq_some_iff {F : Nat → Nat → Prop} {x : Option Failure} (h : Reports F x) (y : Failure) :
    x = some y ↔
      F y.check y.entry ∧ (∀ k e, F k e → NoLater y.check y.entry k e) ∧ y.table = checkTable y.check := by
  refine ⟨fun hx => ⟨h.fails y hx, h.first y hx, h.table y hx⟩, fun ⟨hfails, hfirst, htable⟩ => ?_⟩
  cases x with
  | none => exact absurd hfails (h.none rfl _ _)
  | some z =>
    obtain ⟨hcheck, hentry⟩ := (h.first z rfl _ _ hfails).antisymm (hfirst _ _ (h.fails z rfl))
    have hsame : z.table = y.table := by rw [h.table z rfl, htable, hcheck]
    rw [show z = y from by cases z; cases y; simp_all]

theorem Reports.eq_none_iff {F : Nat → Nat → Prop} {x : Option Failure} (h : Reports F x) :
    x = Option.none ↔ ∀ k e, ¬ F k e := by
  refine ⟨h.none, fun hnone => ?_⟩
  cases x with
  | none => rfl
  | some y => exact absurd (h.fails y rfl) (hnone _ _)

/-! ## The checks one by one -/

section
variable {b : Bank} {floor : Nat} {supervisor : Byte} {k e : Nat}

theorem Bank.fails_one : b.Fails floor supervisor 1 e ↔ e = 0 ∧ b.shaft.inRange = false :=
  ⟨fun h => by cases h with | shaftRange h => exact ⟨rfl, h⟩, fun ⟨he, h⟩ => he ▸ .shaftRange h⟩

theorem Bank.fails_two : b.Fails floor supervisor 2 e ↔ e = 0 ∧ ∃ l : Lane,
    (b.shaft.figures l).bottom ≤ (b.shaft.figures l).top ∨ b.shaft.floor < (b.shaft.figures l).bottom :=
  ⟨fun h => by cases h with | stops l h => exact ⟨rfl, l, h⟩, fun ⟨he, l, h⟩ => he ▸ .stops l h⟩

theorem Bank.fails_three : b.Fails floor supervisor 3 e ↔ e = 0 ∧ b.zoneCount < 1 :=
  ⟨fun h => by cases h with | zoneCount h => exact ⟨rfl, h⟩, fun ⟨he, h⟩ => he ▸ .zoneCount h⟩

theorem Bank.fails_four : b.Fails floor supervisor 4 e ↔ e = 0 ∧ ∃ z, b.entries[0]? = some z ∧ z.top ≠ 0 :=
  ⟨fun h => by cases h with | firstTop z h h' => exact ⟨rfl, z, h, h'⟩, fun ⟨he, z, h, h'⟩ => he ▸ .firstTop z h h'⟩

theorem Bank.fails_five : b.Fails floor supervisor 5 e ↔ ∃ i z z', e = i + 1 ∧ b.entries[i]? = some z
    ∧ b.entries[i + 1]? = some z' ∧ z'.top ≤ z.top :=
  ⟨fun h => by cases h with | ascending i z z' h h' hle => exact ⟨i, z, z', rfl, h, h', hle⟩,
    fun ⟨i, z, z', he, h, h', hle⟩ => he ▸ .ascending i z z' h h' hle⟩

theorem Bank.fails_six : b.Fails floor supervisor 6 e ↔ e = b.zoneCount - 1
    ∧ ∃ z, b.entries.getLast? = some z ∧ floor ≤ z.top :=
  ⟨fun h => by cases h with | lastTop z h hle => exact ⟨rfl, z, h, hle⟩, fun ⟨he, z, h, hle⟩ => he ▸ .lastTop z h hle⟩

theorem Bank.fails_seven : b.Fails floor supervisor 7 e ↔ ∃ n : Fin 64, e = n.val
    ∧ (b.landmarks[n]).present = true ∧ floor * 1000 < (b.landmarks[n]).depth :=
  ⟨fun h => by cases h with | landmark n h hlt => exact ⟨n, rfl, h, hlt⟩, fun ⟨n, he, h, hlt⟩ => he ▸ .landmark n h hlt⟩

/-- The failures of one HOISTS record (checks 8 to 11). -/
def Bank.HoistFails (b : Bank) (supervisor : Byte) (c : Chan) (k e : Nat) : Prop :=
  e = chanNumber c
  ∧ ((k = 8 ∧ (b.hoists.get c).inRange = false)
    ∨ (k = 9 ∧ (b.hoists.get c).aS < (b.hoists.get c).aR)
    ∨ (k = 10 ∧ ((b.hoists.get c).doubtful < (b.hoists.get c).crawl
      ∨ (b.hoists.get c).driveLimit < (b.hoists.get c).doubtful))
    ∨ (k = 11 ∧ ((b.hoists.get c).addr = 0xFF#8 ∨ (b.hoists.get c).addr = supervisor
      ∨ (b.hoists.get c).addr = b.shaft.signalling
      ∨ ∃ d, chanNumber d < chanNumber c ∧ (b.hoists.get d).addr = (b.hoists.get c).addr)))

theorem Bank.fails_iff_of_eight_le (hk : 8 ≤ k) :
    b.Fails floor supervisor k e ↔ ∃ c, b.HoistFails supervisor c k e := by
  constructor
  · intro h
    cases h with
    | hoistRange c h => exact ⟨c, rfl, .inl ⟨rfl, h⟩⟩
    | accelerations c h => exact ⟨c, rfl, .inr (.inl ⟨rfl, h⟩)⟩
    | speeds c h => exact ⟨c, rfl, .inr (.inr (.inl ⟨rfl, h⟩))⟩
    | address c h => exact ⟨c, rfl, .inr (.inr (.inr ⟨rfl, h⟩))⟩
    | _ => omega
  · rintro ⟨c, rfl, ⟨rfl, h⟩ | ⟨rfl, h⟩ | ⟨rfl, h⟩ | ⟨rfl, h⟩⟩
    · exact .hoistRange c h
    · exact .accelerations c h
    · exact .speeds c h
    · exact .address c h

theorem Bank.Fails.pos (h : b.Fails floor supervisor k e) : 1 ≤ k := by cases h <;> decide

/-! ## Searching through the checks -/

/-- The failures of the checks from `n` to `m`. -/
def Bank.FailsFrom (b : Bank) (floor : Nat) (supervisor : Byte) (n m k e : Nat) : Prop :=
  n ≤ k ∧ k ≤ m ∧ b.Fails floor supervisor k e

/-- A search reports the failures from check `n` on by looking past check `n` where that fails nowhere. -/
theorem Reports.skip {n m : Nat} {x : Option Failure} (hnone : ∀ e, ¬ b.Fails floor supervisor n e)
    (h : Reports (b.FailsFrom floor supervisor (n + 1) m) x) : Reports (b.FailsFrom floor supervisor n m) x :=
  h.congr fun _ e => ⟨fun ⟨hlow, hhigh, hfails⟩ => ⟨Nat.le_of_succ_le hlow, hhigh, hfails⟩,
    fun ⟨hlow, hhigh, hfails⟩ => ⟨Nat.lt_of_le_of_ne hlow fun hn => hnone e (hn ▸ hfails), hhigh, hfails⟩⟩

/-- A search reports check `n`, one of the first seven, at its lowest failing entry. -/
theorem Reports.stop {n m : Nat} {y : Failure} (hn : y.check = n) (hseven : n < 8) (hnm : n ≤ m)
    (hfails : b.Fails floor supervisor n y.entry) (hlowest : ∀ e, b.Fails floor supervisor n e → y.entry ≤ e)
    (htable : y.table = checkTable y.check) : Reports (b.FailsFrom floor supervisor n m) (some y) := by
  subst hn
  refine .of_some ⟨Nat.le_refl _, hnm, hfails⟩ (fun k e ⟨hlow, hhigh, h⟩ => ?_) htable
  rcases Nat.eq_or_lt_of_le hlow with heq | hlater
  · exact heq ▸ NoLater.of_le hseven (hlowest e (heq ▸ h))
  · exact NoLater.of_lt hseven hlater

theorem Reports.done {m : Nat} : Reports (b.FailsFrom floor supervisor (m + 1) m) Option.none :=
  .of_none fun _ _ ⟨hlow, hhigh, _⟩ => absurd (Nat.lt_of_lt_of_le hlow hhigh) (Nat.lt_irrefl _)

/-! ## Checks 1 and 2 -/

theorem LaneFigures.ordered_iff (l : LaneFigures) (floor : Nat) :
    l.ordered floor = true ↔ l.top < l.bottom ∧ l.bottom ≤ floor := by simp [LaneFigures.ordered]

/-- Check 2 fails at no lane exactly when both lanes are ordered. -/
theorem Shaft.ordered_iff (r : Shaft) :
    (r.laneA.ordered r.floor && r.laneB.ordered r.floor) = true ↔
      ¬ ∃ l : Lane, (r.figures l).bottom ≤ (r.figures l).top ∨ r.floor < (r.figures l).bottom := by
  simp only [Bool.and_eq_true, LaneFigures.ordered_iff, not_exists, not_or, Nat.not_le, Nat.not_lt]
  exact ⟨fun ⟨ha, hb⟩ l => by cases l; exacts [ha, hb], fun h => ⟨h .a, h .b⟩⟩

theorem Bank.reports_shaft : Reports (b.FailsFrom floor supervisor 1 2) (shaftFailure b.shaft) := by
  rw [shaftFailure]
  cases hrange : b.shaft.inRange with
  | false =>
    exact .stop rfl (by decide) (by decide) (Bank.fails_one.2 ⟨rfl, hrange⟩) (fun e _ => Nat.zero_le e) rfl
  | true =>
    refine .skip (fun e h => absurd (Bank.fails_one.1 h).2 (by rw [hrange]; decide)) ?_
    have hordered := b.shaft.ordered_iff
    by_cases hlanes : (b.shaft.laneA.ordered b.shaft.floor && b.shaft.laneB.ordered b.shaft.floor) = true
    · simp only [hlanes, Bool.not_true, Bool.false_eq_true, if_false, if_true]
      exact .skip (fun e h => hordered.1 hlanes (Bank.fails_two.1 h).2) .done
    · simp only [hlanes, Bool.not_true, Bool.false_eq_true, if_false]
      exact .stop rfl (by decide) (by decide) (Bank.fails_two.2 ⟨rfl, not_not.1 (mt hordered.2 hlanes)⟩)
        (fun e _ => Nat.zero_le e) rfl

/-! ## Checks 3 to 6 -/

theorem notAscending_cons (i : Nat) (a b : Zone) (rest : List Zone) :
    notAscending i (a :: b :: rest) = if a.top < b.top then notAscending (i + 1) (b :: rest) else some (i + 1) := rfl

theorem notAscending_of_none {zs : List Zone} {i : Nat} (h : notAscending i zs = none) {k : Nat} {z z' : Zone}
    (hz : zs[k]? = some z) (hz' : zs[k + 1]? = some z') : z.top < z'.top := by
  induction zs generalizing i k with
  | nil => cases hz
  | cons a rest ih =>
    match rest, k with
    | [], k => cases hz'
    | b :: rest, k =>
      rw [notAscending_cons] at h
      split at h
      · cases k with
        | zero => cases hz; cases hz'; assumption
        | succ k => exact ih h hz hz'
      · cases h

theorem notAscending_of_some {zs : List Zone} {i j : Nat} (h : notAscending i zs = some j) :
    ∃ k z z', j = i + (k + 1) ∧ zs[k]? = some z ∧ zs[k + 1]? = some z' ∧ z'.top ≤ z.top
      ∧ ∀ m w w', m < k → zs[m]? = some w → zs[m + 1]? = some w' → w.top < w'.top := by
  induction zs generalizing i with
  | nil => cases h
  | cons a rest ih =>
    match rest with
    | [] => cases h
    | b :: rest =>
      rw [notAscending_cons] at h
      split at h
      case isTrue hlt =>
        obtain ⟨k, z, z', hj, hz, hz', hle, hbefore⟩ := ih h
        refine ⟨k + 1, z, z', by omega, hz, hz', hle, fun m w w' hm hw hw' => ?_⟩
        cases m with
        | zero => cases hw; cases hw'; exact hlt
        | succ m => exact hbefore m w w' (by omega) hw hw'
      case isFalse hle =>
        cases h
        exact ⟨0, a, b, rfl, rfl, rfl, Nat.not_lt.1 hle, fun m _ _ hm => absurd hm (Nat.not_lt_zero m)⟩

theorem Bank.entries_length (b : Bank) : b.entries.length = min b.zoneCount 32 := by
  rw [Bank.entries, List.length_take, Vector.length_toList]

theorem Bank.reports_zones :
    Reports (b.FailsFrom floor supervisor 3 6) (zoneFailure b.zoneCount b.entries floor) := by
  rw [zoneFailure]
  by_cases hcount : b.zoneCount < 1
  · rw [if_pos hcount]
    exact .stop rfl (by decide) (by decide) (Bank.fails_three.2 ⟨rfl, hcount⟩) (fun e _ => Nat.zero_le e) rfl
  rw [if_neg hcount]
  refine .skip (fun e h => hcount (Bank.fails_three.1 h).2) ?_
  obtain ⟨z, rest, hentries⟩ : ∃ z rest, b.entries = z :: rest := by
    refine List.exists_cons_of_length_pos ?_
    rw [Bank.entries_length]
    omega
  by_cases htop : z.top = 0
  · rw [if_neg (by rw [hentries]; simpa using htop)]
    refine .skip (fun e h => ?_) ?_
    · obtain ⟨-, z', hz', hne⟩ := Bank.fails_four.1 h
      rw [hentries] at hz'
      cases hz'
      exact hne htop
    cases hascends : notAscending 0 b.entries with
    | some j =>
      obtain ⟨i, w, w', hj, hw, hw', hle, hbefore⟩ := notAscending_of_some hascends
      refine .stop rfl (by decide) (by decide) (Bank.fails_five.2 ⟨i, w, w', by simpa using hj, hw, hw', hle⟩)
        (fun e h => ?_) rfl
      obtain ⟨m, y, y', rfl, hy, hy', hle'⟩ := Bank.fails_five.1 h
      by_contra hlower
      have hm : m < i := by
        simp only [hj] at hlower
        omega
      exact absurd (hbefore m y y' hm hy hy') (Nat.not_lt.2 hle')
    | none =>
      refine .skip (fun e h => ?_) ?_
      · obtain ⟨i, w, w', -, hw, hw', hle⟩ := Bank.fails_five.1 h
        exact absurd (notAscending_of_none hascends hw hw') (Nat.not_lt.2 hle)
      obtain ⟨last, hlast⟩ : ∃ last, b.entries.getLast? = some last := by
        rw [hentries]
        exact ⟨_, List.getLast?_eq_some_getLast (List.cons_ne_nil z rest)⟩
      simp only [hlast, Option.map_some, Option.getD_some]
      by_cases hfloor : last.top < floor
      · rw [if_pos hfloor]
        refine .skip (fun e h => ?_) .done
        obtain ⟨-, y, hy, hle⟩ := Bank.fails_six.1 h
        rw [hlast] at hy
        cases hy
        omega
      · rw [if_neg hfloor]
        exact .stop rfl (by decide) (by decide) (Bank.fails_six.2 ⟨rfl, last, hlast, Nat.not_lt.1 hfloor⟩)
          (fun e h => (Bank.fails_six.1 h).1.ge) rfl
  · rw [if_pos (by rw [hentries]; simpa using htop)]
    exact .stop rfl (by decide) (by decide) (Bank.fails_four.2 ⟨rfl, z, by rw [hentries]; rfl, htop⟩)
      (fun e _ => Nat.zero_le e) rfl

/-! ## Check 7 -/

theorem Bank.reports_landmarks :
    Reports (b.FailsFrom floor supervisor 7 7) (landmarkFailure b.landmarks.toList floor) := by
  rw [landmarkFailure]
  cases hfind : b.landmarks.toList.findIdx? fun m => m.present && decide (floor * 1000 < m.depth) with
  | none =>
    refine .skip (fun e h => ?_) .done
    obtain ⟨n, -, hpresent, hdeep⟩ := Bank.fails_seven.1 h
    have hmem : b.landmarks[n] ∈ b.landmarks.toList := Vector.mem_toList_iff.2 (Vector.getElem_mem _)
    have := List.findIdx?_eq_none_iff.1 hfind _ hmem
    simp only [hpresent, hdeep, decide_true, Bool.and_self] at this
    cases this
  | some i =>
    obtain ⟨hlt, hat, hbefore⟩ := List.findIdx?_eq_some_iff_getElem.1 hfind
    have hlt' : i < 64 := by simpa using hlt
    simp only [Vector.getElem_toList, Bool.and_eq_true, decide_eq_true_eq] at hat
    refine .stop rfl (by decide) (by decide) (Bank.fails_seven.2 ⟨⟨i, hlt'⟩, rfl, hat⟩) (fun e h => ?_) rfl
    obtain ⟨n, rfl, hpresent, hdeep⟩ := Bank.fails_seven.1 h
    by_contra hlower
    have := hbefore n.val (Nat.not_le.1 hlower)
    simp only [Vector.getElem_toList, Bool.and_eq_true, decide_eq_true_eq, not_and] at this
    exact this hpresent hdeep

/-! ## Checks 8 to 11 -/

/-- The failures of one HOISTS record from check `n` on. -/
def Bank.HoistFailsFrom (b : Bank) (supervisor : Byte) (c : Chan) (n k e : Nat) : Prop :=
  n ≤ k ∧ b.HoistFails supervisor c k e

variable {c : Chan}

theorem Reports.skipHoist {n : Nat} {x : Option Failure} (hnone : ∀ e, ¬ b.HoistFails supervisor c n e)
    (h : Reports (b.HoistFailsFrom supervisor c (n + 1)) x) : Reports (b.HoistFailsFrom supervisor c n) x :=
  h.congr fun _ e => ⟨fun ⟨hlow, hfails⟩ => ⟨Nat.le_of_succ_le hlow, hfails⟩,
    fun ⟨hlow, hfails⟩ => ⟨Nat.lt_of_le_of_ne hlow fun hn => hnone e (hn ▸ hfails), hfails⟩⟩

theorem Reports.stopHoist {n : Nat} (hn : 8 ≤ n) (hfails : b.HoistFails supervisor c n (chanNumber c)) :
    Reports (b.HoistFailsFrom supervisor c n) (some ⟨.hoists, chanNumber c, n⟩) := by
  refine .of_some ⟨Nat.le_refl _, hfails⟩ (fun k e ⟨hlow, he, _⟩ => ?_) ?_
  · exact NoLater.of_hoist hn (Nat.le_trans hn hlow) (.inr ⟨he.symm, hlow⟩)
  · show Table.hoists = checkTable n
    rw [checkTable, if_neg (by omega), if_neg (by omega), if_neg (by omega)]

theorem Reports.doneHoist : Reports (b.HoistFailsFrom supervisor c 12) Option.none := by
  refine .of_none fun k e ⟨hlow, _, h⟩ => ?_
  rcases h with ⟨hk, _⟩ | ⟨hk, _⟩ | ⟨hk, _⟩ | ⟨hk, _⟩ <;> omega

theorem Bank.reports_hoist {before : List Byte}
    (hbefore : ∀ a, a ∈ before ↔ ∃ d, chanNumber d < chanNumber c ∧ (b.hoists.get d).addr = a) :
    Reports (b.HoistFails supervisor c)
      (hoistFailure (chanNumber c) (b.hoists.get c) supervisor b.shaft.signalling before) := by
  have hall : ∀ k e, b.HoistFailsFrom supervisor c 8 k e ↔ b.HoistFails supervisor c k e := fun k e =>
    ⟨And.right, fun h => ⟨by obtain ⟨-, ⟨hk, _⟩ | ⟨hk, _⟩ | ⟨hk, _⟩ | ⟨hk, _⟩⟩ := h <;> omega, h⟩⟩
  refine .congr ?_ hall
  rw [hoistFailure]
  by_cases hrange : (b.hoists.get c).inRange = true
  swap
  · rw [if_pos (by simpa using hrange)]
    exact .stopHoist (by decide) ⟨rfl, .inl ⟨rfl, by simpa using hrange⟩⟩
  rw [if_neg (by simpa using hrange)]
  refine .skipHoist (fun e h => by simp [Bank.HoistFails, hrange] at h) ?_
  by_cases haccelerations : (b.hoists.get c).aS < (b.hoists.get c).aR
  · rw [if_pos haccelerations]
    exact .stopHoist (by decide) ⟨rfl, .inr (.inl ⟨rfl, haccelerations⟩)⟩
  rw [if_neg haccelerations]
  refine .skipHoist (fun e h => haccelerations (by simpa [Bank.HoistFails] using h.2)) ?_
  by_cases hspeeds : (b.hoists.get c).doubtful < (b.hoists.get c).crawl
      ∨ (b.hoists.get c).driveLimit < (b.hoists.get c).doubtful
  · rw [if_pos (by simpa using hspeeds)]
    exact .stopHoist (by decide) ⟨rfl, .inr (.inr (.inl ⟨rfl, hspeeds⟩))⟩
  rw [if_neg (by simpa using hspeeds)]
  refine .skipHoist (fun e h => hspeeds (by simpa [Bank.HoistFails] using h.2)) ?_
  have haddress : ((b.hoists.get c).addr == 0xFF#8 || (b.hoists.get c).addr == supervisor
        || (b.hoists.get c).addr == b.shaft.signalling || before.contains (b.hoists.get c).addr) = true ↔
      ((b.hoists.get c).addr = 0xFF#8 ∨ (b.hoists.get c).addr = supervisor
        ∨ (b.hoists.get c).addr = b.shaft.signalling
        ∨ ∃ d, chanNumber d < chanNumber c ∧ (b.hoists.get d).addr = (b.hoists.get c).addr) := by
    simp only [Bool.or_eq_true, beq_iff_eq, List.contains_iff_mem, hbefore, or_assoc]
  split
  case isTrue h => exact .stopHoist (by decide) ⟨rfl, .inr (.inr (.inr ⟨rfl, haddress.1 h⟩))⟩
  case isFalse h =>
    exact .skipHoist (fun e hfails => h (haddress.2 (by simpa [Bank.HoistFails] using hfails.2))) .doneHoist

/-- The failures of the HOISTS records of number `n` and above. -/
def Bank.HoistsFail (b : Bank) (supervisor : Byte) (n k e : Nat) : Prop :=
  ∃ c, n ≤ chanNumber c ∧ b.HoistFails supervisor c k e

theorem Bank.HoistFails.entry {k e : Nat} (h : b.HoistFails supervisor c k e) : 8 ≤ k ∧ e = chanNumber c := by
  obtain ⟨he, ⟨hk, _⟩ | ⟨hk, _⟩ | ⟨hk, _⟩ | ⟨hk, _⟩⟩ := h <;> exact ⟨by omega, he⟩

/-- The records after `c` come after it. -/
theorem Reports.orHoist {n : Nat} {x y : Option Failure} (hn : chanNumber c = n)
    (hx : Reports (b.HoistFails supervisor c) x) (hy : Reports (b.HoistsFail supervisor (n + 1)) y) :
    Reports (b.HoistsFail supervisor n) (x.or y) := by
  refine (hx.or hy fun k e k' e' h ⟨d, hd, h'⟩ => ?_).congr fun k e => ?_
  · obtain ⟨hk, he⟩ := h.entry
    obtain ⟨hk', he'⟩ := h'.entry
    exact NoLater.of_hoist hk hk' (.inl (by omega))
  · constructor
    · rintro (h | ⟨d, hd, h⟩)
      · exact ⟨c, hn.ge, h⟩
      · exact ⟨d, Nat.le_of_succ_le hd, h⟩
    · rintro ⟨d, hd, h⟩
      rcases Nat.eq_or_lt_of_le hd with heq | hlt
      · have hsame : d = c := by
          have hsame := congrArg chanOf (heq.symm.trans hn.symm)
          rwa [chanOf_chanNumber, chanOf_chanNumber, Option.some_inj] at hsame
        exact .inl (hsame ▸ h)
      · exact .inr ⟨d, hlt, h⟩

theorem exists_chan_iff {p : Chan → Prop} : (∃ c, p c) ↔ p .c0 ∨ p .c1 ∨ p .c2 ∨ p .c3 := by
  constructor
  · rintro ⟨c, h⟩
    cases c <;> simp [h]
  · rintro (h | h | h | h) <;> exact ⟨_, h⟩

theorem Bank.reports_hoists :
    Reports (b.HoistsFail supervisor 0) (hoistsFailure b.hoists supervisor b.shaft.signalling) := by
  have hbeyond : Reports (b.HoistsFail supervisor 4) Option.none :=
    .of_none fun k e ⟨c, hc, _⟩ => absurd hc (by cases c <;> decide)
  have h0 := Bank.reports_hoist (b := b) (supervisor := supervisor) (c := .c0) (before := []) fun a => by
    simp [chanNumber]
  have h1 := Bank.reports_hoist (b := b) (supervisor := supervisor) (c := .c1)
    (before := [b.hoists.v0.addr]) fun a => by
    simp [exists_chan_iff, chanNumber, Quad.get, eq_comm]
  have h2 := Bank.reports_hoist (b := b) (supervisor := supervisor) (c := .c2)
    (before := [b.hoists.v0.addr, b.hoists.v1.addr]) fun a => by
    simp [exists_chan_iff, chanNumber, Quad.get, eq_comm]
  have h3 := Bank.reports_hoist (b := b) (supervisor := supervisor) (c := .c3)
    (before := [b.hoists.v0.addr, b.hoists.v1.addr, b.hoists.v2.addr]) fun a => by
    simp [exists_chan_iff, chanNumber, Quad.get, eq_comm]
  have hlast := Reports.orHoist rfl h3 hbeyond
  rw [Option.or_none] at hlast
  exact .orHoist rfl h0 (.orHoist rfl h1 (.orHoist rfl h2 hlast))

/-! ## The checks of a scope -/

theorem Bank.Fails.hoists_or {k e : Nat} (h : b.Fails floor supervisor k e) :
    k ≤ 7 ∨ b.HoistsFail supervisor 0 k e := by
  rcases Nat.lt_or_ge k 8 with hk | hk
  · exact .inl (Nat.le_of_lt_succ hk)
  · obtain ⟨c, hc⟩ := (Bank.fails_iff_of_eight_le hk).1 h
    exact .inr ⟨c, Nat.zero_le _, hc⟩

theorem Bank.HoistsFail.fails {n k e : Nat} (h : b.HoistsFail supervisor n k e) :
    8 ≤ k ∧ b.Fails floor supervisor k e := by
  obtain ⟨c, -, hc⟩ := h
  exact ⟨hc.entry.1, (Bank.fails_iff_of_eight_le hc.entry.1).2 ⟨c, hc⟩⟩

theorem Bank.reports_all : Reports (b.Fails b.shaft.floor supervisor) (allFailure b supervisor) := by
  rw [allFailure]
  have hlate : ∀ {k e k' e'}, k ≤ 7 → b.HoistsFail supervisor 0 k' e' → NoLater k e k' e' := fun hk h =>
    NoLater.of_lt (by omega) (by have := (h.fails (floor := b.shaft.floor)).1; omega)
  have hmarks : Reports (fun k e => b.FailsFrom b.shaft.floor supervisor 7 7 k e ∨ b.HoistsFail supervisor 0 k e) _ :=
    Bank.reports_landmarks.or Bank.reports_hoists fun k e k' e' ⟨_, hk, _⟩ h => hlate hk h
  have hzones : Reports (fun k e => b.FailsFrom b.shaft.floor supervisor 3 6 k e ∨ _) _ :=
    Bank.reports_zones.or hmarks fun k e k' e' ⟨_, hk, _⟩ h => by
      rcases h with ⟨hk', _⟩ | h
      · exact NoLater.of_lt (by omega) (by omega)
      · exact hlate (by omega) h
  have hshaft : Reports (fun k e => b.FailsFrom b.shaft.floor supervisor 1 2 k e ∨ _) _ :=
    Bank.reports_shaft.or hzones fun k e k' e' ⟨_, hk, _⟩ h => by
      rcases h with ⟨hk', _⟩ | ⟨hk', _⟩ | h
      · exact NoLater.of_lt (by omega) (by omega)
      · exact NoLater.of_lt (by omega) (by omega)
      · exact hlate (by omega) h
  refine hshaft.congr fun k e => ⟨?_, fun h => ?_⟩
  · rintro (⟨_, _, h⟩ | ⟨_, _, h⟩ | ⟨_, _, h⟩ | h)
    · exact h
    · exact h
    · exact h
    · exact h.fails.2
  · rcases h.hoists_or with hk | hhoists
    · by_cases hshaft : k ≤ 2
      · exact .inl ⟨h.pos, hshaft, h⟩
      by_cases hzones : k ≤ 6
      · exact .inr (.inl ⟨by omega, hzones, h⟩)
      · exact .inr (.inr (.inl ⟨by omega, hk, h⟩))
    · exact .inr (.inr (.inr hhoists))

theorem State.reports_scope (s : State) (scope : Scope) : Reports (s.CheckFails scope) (s.scopeFailure scope) := by
  cases scope with
  | all => exact Bank.reports_all
  | zones => exact Bank.reports_zones

theorem State.scopeFailure_eq_none_iff (s : State) (scope : Scope) :
    s.scopeFailure scope = none ↔ ∀ check entry, ¬ s.CheckFails scope check entry := (s.reports_scope scope).eq_none_iff

theorem State.scopeFailure_eq_some_iff (s : State) (scope : Scope) (y : Failure) :
    s.scopeFailure scope = some y ↔ s.FirstFailure scope y := by
  rw [(s.reports_scope scope).eq_some_iff]
  exact ⟨fun ⟨hfails, hfirst, htable⟩ => ⟨hfails, hfirst, htable⟩,
    fun ⟨hfails, hfirst, htable⟩ => ⟨hfails, hfirst, htable⟩⟩

end

/-! ## The eleven conditions -/

section
variable {b : Bank} {floor : Nat} {supervisor : Byte}

theorem Bank.none_one : (∀ e, ¬ b.Fails floor supervisor 1 e) ↔ b.shaft.inRange = true := by
  simp [Bank.fails_one]

theorem Bank.none_two : (∀ e, ¬ b.Fails floor supervisor 2 e) ↔
    b.shaft.laneA.top < b.shaft.laneA.bottom ∧ b.shaft.laneA.bottom ≤ b.shaft.floor
      ∧ b.shaft.laneB.top < b.shaft.laneB.bottom ∧ b.shaft.laneB.bottom ≤ b.shaft.floor := by
  have hordered := b.shaft.ordered_iff
  simp only [Bool.and_eq_true, LaneFigures.ordered_iff] at hordered
  simp only [Bank.fails_two, not_and, forall_eq, ← hordered, and_assoc]

theorem Bank.none_three : (∀ e, ¬ b.Fails floor supervisor 3 e) ↔ 1 ≤ b.zoneCount := by
  simp [Bank.fails_three, Nat.one_le_iff_ne_zero]

theorem Bank.none_four : (∀ e, ¬ b.Fails floor supervisor 4 e) ↔ ∀ z, b.entries.head? = some z → z.top = 0 := by
  simp [Bank.fails_four, List.head?_eq_getElem?]

theorem Bank.none_five : (∀ e, ¬ b.Fails floor supervisor 5 e) ↔ b.entries.Pairwise fun z z' => z.top < z'.top := by
  simp only [Bank.fails_five, List.pairwise_iff_getElem]
  constructor
  · intro h i j hi hj hij
    induction j, hij using Nat.le_induction with
    | base =>
      by_contra hle
      exact h _ ⟨i, _, _, rfl, List.getElem?_eq_getElem hi, List.getElem?_eq_getElem hj, Nat.not_lt.1 hle⟩
    | succ j hij ih =>
      have hstep : b.entries[j].top < b.entries[j + 1].top := by
        by_contra hle
        exact h _ ⟨j, _, _, rfl, List.getElem?_eq_getElem (by omega), List.getElem?_eq_getElem hj, Nat.not_lt.1 hle⟩
      exact Nat.lt_trans (ih (by omega)) hstep
  · rintro h e ⟨i, z, z', -, hz, hz', hle⟩
    obtain ⟨hi, rfl⟩ := List.getElem?_eq_some_iff.1 hz
    obtain ⟨hi', rfl⟩ := List.getElem?_eq_some_iff.1 hz'
    exact absurd (h i (i + 1) hi hi' (Nat.lt_succ_self i)) (Nat.not_lt.2 hle)

theorem Bank.none_six : (∀ e, ¬ b.Fails floor supervisor 6 e) ↔ ∀ z, b.entries.getLast? = some z → z.top < floor := by
  simp [Bank.fails_six]

theorem Bank.none_seven : (∀ e, ¬ b.Fails floor supervisor 7 e) ↔
    ∀ n : Fin 64, (b.landmarks[n]).present = true → (b.landmarks[n]).depth ≤ floor * 1000 := by
  simp only [Bank.fails_seven, not_exists, not_and, Nat.not_lt]
  exact ⟨fun h n => h n.val n rfl, fun h _ n _ => h n⟩

theorem Bank.none_hoist (c : Chan) : (∀ k e, ¬ b.HoistFails supervisor c k e) ↔
    (b.hoists.get c).inRange = true ∧ (b.hoists.get c).aR ≤ (b.hoists.get c).aS
    ∧ (b.hoists.get c).crawl ≤ (b.hoists.get c).doubtful ∧ (b.hoists.get c).doubtful ≤ (b.hoists.get c).driveLimit
    ∧ (b.hoists.get c).addr ≠ 0xFF#8 ∧ (b.hoists.get c).addr ≠ supervisor
    ∧ (b.hoists.get c).addr ≠ b.shaft.signalling
    ∧ ∀ d, chanNumber d < chanNumber c → (b.hoists.get d).addr ≠ (b.hoists.get c).addr := by
  constructor
  · intro h
    have hrange := fun hk => h 8 _ ⟨rfl, .inl ⟨rfl, hk⟩⟩
    have haccelerations := fun hk => h 9 _ ⟨rfl, .inr (.inl ⟨rfl, hk⟩)⟩
    have hspeeds := fun hk => h 10 _ ⟨rfl, .inr (.inr (.inl ⟨rfl, hk⟩))⟩
    have haddress := fun hk => h 11 _ ⟨rfl, .inr (.inr (.inr ⟨rfl, hk⟩))⟩
    simp only [not_or, Nat.not_lt, imp_false, not_exists, not_and] at hrange haccelerations hspeeds haddress
    exact ⟨by simpa using hrange, haccelerations, hspeeds.1, hspeeds.2, haddress⟩
  · rintro ⟨hrange, haccelerations, hcrawl, hlimit, haddress⟩ k e ⟨-, ⟨-, h⟩ | ⟨-, h⟩ | ⟨-, h⟩ | ⟨-, h⟩⟩
    · exact absurd (hrange.symm.trans h) (by decide)
    · omega
    · omega
    · obtain ⟨hnull, hsupervisor, hsignalling, hothers⟩ := haddress
      rcases h with h | h | h | ⟨d, hd, h⟩
      · exact hnull h
      · exact hsupervisor h
      · exact hsignalling h
      · exact hothers d hd h

/-- The drive addresses differ in pairs exactly when each differs from those before it. -/
theorem forall_before_iff {addr : Chan → Byte} :
    (∀ c d, chanNumber d < chanNumber c → addr d ≠ addr c) ↔ ∀ c d, d ≠ c → addr d ≠ addr c := by
  constructor
  · intro h c d hne
    rcases Nat.lt_trichotomy (chanNumber d) (chanNumber c) with hlt | heq | hgt
    · exact h c d hlt
    · have hsame := congrArg chanOf heq
      rw [chanOf_chanNumber, chanOf_chanNumber, Option.some_inj] at hsame
      exact absurd hsame hne
    · exact (h d c hgt).symm
  · intro h c d hlt
    exact h c d (by rintro rfl; exact Nat.lt_irrefl _ hlt)

/-- The eleven conditions of R16. -/
theorem Bank.allFailure_eq_none_iff :
    allFailure b supervisor = none ↔
      (∀ k e, k ≤ 7 → ¬ b.Fails b.shaft.floor supervisor k e) ∧ ∀ c k e, ¬ b.HoistFails supervisor c k e := by
  rw [Bank.reports_all.eq_none_iff]
  refine ⟨fun h => ⟨fun k e _ => h k e, fun c k e hc => h k e ?_⟩, fun ⟨hlow, hhoists⟩ k e h => ?_⟩
  · exact (Bank.fails_iff_of_eight_le hc.entry.1).2 ⟨c, hc⟩
  · rcases h.hoists_or with hk | ⟨c, -, hc⟩
    · exact hlow k e hk h
    · exact hhoists c k e hc

/-- The first seven checks one by one. -/
theorem forall_seven_iff {p : Nat → Nat → Prop} (hpos : ∀ e, ¬ p 0 e) : (∀ k e, k ≤ 7 → ¬ p k e) ↔
    (∀ e, ¬ p 1 e) ∧ (∀ e, ¬ p 2 e) ∧ (∀ e, ¬ p 3 e) ∧ (∀ e, ¬ p 4 e) ∧ (∀ e, ¬ p 5 e) ∧ (∀ e, ¬ p 6 e)
      ∧ ∀ e, ¬ p 7 e := by
  refine ⟨fun h => ⟨fun e => h 1 e (by decide), fun e => h 2 e (by decide), fun e => h 3 e (by decide),
    fun e => h 4 e (by decide), fun e => h 5 e (by decide), fun e => h 6 e (by decide), fun e => h 7 e (by decide)⟩,
    fun ⟨h1, h2, h3, h4, h5, h6, h7⟩ k e hk => ?_⟩
  match k, hk with
  | 0, _ => exact hpos e
  | 1, _ => exact h1 e
  | 2, _ => exact h2 e
  | 3, _ => exact h3 e
  | 4, _ => exact h4 e
  | 5, _ => exact h5 e
  | 6, _ => exact h6 e
  | 7, _ => exact h7 e

end

/-- Settles O51: each check's failures in its own terms, and the search that reports the first. -/
theorem consistencyChecksAreTheElevenConditions : Obligations.ConsistencyChecksAreTheElevenConditions := by
  refine ⟨fun b supervisor => ?_, fun s scope => ⟨s.scopeFailure_eq_none_iff scope, s.scopeFailure_eq_some_iff scope⟩⟩
  intro zs r
  have hpos : ∀ e, ¬ b.Fails b.shaft.floor supervisor 0 e := fun e h => absurd h.pos (by decide)
  rw [Bank.allFailure_eq_none_iff, forall_seven_iff hpos, Bank.none_one, Bank.none_two, Bank.none_three, Bank.none_four,
    Bank.none_five, Bank.none_six, Bank.none_seven]
  simp only [Bank.none_hoist, forall_and, forall_before_iff (addr := fun c => (b.hoists.get c).addr), and_assoc]
  rfl

end Sys2Proof.Machine
end


section
/-! ACTIVATE and the end of an activation (R14 to R19, R177). -/

namespace Sys2Proof.Machine

/-! ## The taking -/

theorem ofNat_append (hi lo : Byte) : BitVec.ofNat 16 (hi.toNat * 256 + lo.toNat) = hi ++ lo := by
  apply BitVec.eq_of_toNat_eq
  have hhi := hi.isLt
  have hlo := lo.isLt
  rw [BitVec.toNat_append, ← Nat.shiftLeft_add_eq_or_of_lt hlo, Nat.shiftLeft_eq, BitVec.toNat_ofNat,
    Nat.mod_eq_of_lt (by omega)]

theorem activateData_none : activateData none none = List.replicate 6 0x00#8 := by decide

theorem ChanState.admitsActivation_iff (st : ChanState) :
    st.admitsActivation = true ↔ st = .parked ∨ st = .unconfigured ∨ st = .tripped := by
  cases st <;> simp [ChanState.admitsActivation]

section
variable {f : Frame} {scope hi lo : Byte} (hf : f.payload = [codeActivate, scope, hi, lo])
include hf

theorem commonCheck_activate : commonCheck f = none :=
  commonCheck_of_fit hf (by decide) (by rw [hf]; rfl) (.inl (by decide))

theorem hasScope_activate {other : Byte} (h : scope ≠ other) : hasScope codeActivate other f = true := by
  have hoperand : (byteAt f.payload 1 == other) = false := by rw [hf]; exact beq_eq_false_iff_ne.2 h
  rw [hasScope, hasCode_of_payload hf, hoperand, Bool.and_false]
  rfl

/-- ACTIVATE's body on a request that the common checks pass, by its scope (R14). -/
theorem State.takeActivate_eq (t : State) :
    t.takeActivate f =
      if scope = 0x00#8 then
        if allChans.all fun c => (t.ctl c).state.admitsActivation then { t with activation := some ⟨.all, hi ++ lo, f⟩ }
        else t.answer f .moving (List.replicate 6 0x00#8)
      else if scope = 0x01#8 then { t with activation := some ⟨.zones, hi ++ lo, f⟩ }
      else t.answer f .badValue (List.replicate 6 0x00#8) := by
  have hscope : byteAt f.payload 1 = scope := by rw [hf]; rfl
  simp only [State.takeActivate, commonCheck_activate hf, hscope, natAt_index hf, ofNat_append, activateData_none]

variable {s : State} {rest : List Frame} (htakes : s.Takes f rest) (dt : Nat)
include htakes

theorem State.Takes.exec_activateAll (h : scope ≠ 0x01#8) :
    exec (.activateAll dt) s = .next ((s.taken dt rest).reserving.takeActivate f) :=
  congrArg _ (htakes.takeRequest_eq dt (hasScope_activate hf h) State.takeActivate)

theorem State.Takes.exec_activateZones (h : scope ≠ 0x00#8) :
    exec (.activateZones dt) s = .next ((s.taken dt rest).reserving.takeActivate f) :=
  congrArg _ (htakes.takeRequest_eq dt (hasScope_activate hf h) State.takeActivate)

end

/-- Settles O49: the body by the scope and by the MOVING test. -/
theorem activateIsTakenOrRefusedMoving : Obligations.ActivateIsTakenOrRefusedMoving := by
  intro dt s f rest hi lo htakes u begun still
  have hline : u.resetLine = .negated := htakes.taken_line dt
  have hstill : (allChans.all fun c => (u.reserving.ctl c).state.admitsActivation) = true ↔ ∀ c, still c := by
    rw [List.all_eq_true]
    exact ⟨fun h c => (ChanState.admitsActivation_iff _).1 (h c (mem_allChans c)),
      fun h c _ => (ChanState.admitsActivation_iff _).2 (h c)⟩
  refine ⟨fun hf hall => ?_, fun hf ⟨c, hmoving⟩ => ?_, fun hf => ?_, fun scope hscope hf row hrow => ?_⟩
  · rw [htakes.exec_activateAll hf dt (by decide), State.takeActivate_eq hf, if_pos rfl, if_pos (hstill.2 hall)]
    rfl
  · rw [htakes.exec_activateAll hf dt (by decide), State.takeActivate_eq hf, if_pos rfl,
      if_neg fun h => hmoving (hstill.1 h c), State.answer_reserving hline]
  · rw [htakes.exec_activateZones hf dt (by decide), State.takeActivate_eq hf, if_neg (by decide), if_pos rfl]
    rfl
  · obtain ⟨hall, hzones⟩ := ne_of_one_lt_toNat hscope
    have hbody : u.reserving.takeActivate f = u.replied f .badValue (List.replicate 6 0x00#8) := by
      rw [State.takeActivate_eq hf, if_neg hall, if_neg hzones, State.answer_reserving hline]
    simp only [List.mem_cons, List.not_mem_nil, or_false] at hrow
    rcases hrow with rfl | rfl
    · rw [htakes.exec_activateAll hf dt hzones, hbody]
    · rw [htakes.exec_activateZones hf dt hall, hbody]

/-! ## The end -/

/-- The data of a reply that carries the CRC (section 8.7). -/
theorem activateData_crc (crc : BitVec 16) (y : Option Failure) :
    activateData (some crc) y =
      [0x01#8] ++ [BitVec.ofNat 8 (crc.toNat / 256), BitVec.ofNat 8 crc.toNat]
        ++ y.elim [0x00#8, 0x00#8, 0x00#8] fun z => [z.table.code, BitVec.ofNat 8 z.entry, BitVec.ofNat 8 z.check] := by
  have hbytes : natBytes 2 crc.toNat = [BitVec.ofNat 8 (crc.toNat / 256), BitVec.ofNat 8 crc.toNat] := by
    simp [natBytes]
  unfold activateData
  rw [Option.map_some, Option.getD_some, hbytes]
  cases y <;> rfl

section
variable {s : State} {scope : Scope} {x : BitVec 16} {f : Frame} (h : s.activation = some ⟨scope, x, f⟩)
include h

theorem State.endActivation_of_mismatch (hcrc : crc16 (s.shadow.image scope) ≠ x) :
    s.endActivation scope = State.answer { s with activation := none } f .checkMismatch
      (activateData (some (crc16 (s.shadow.image scope))) none) := by
  simp only [State.endActivation, h, if_true]
  exact if_pos hcrc

theorem State.endActivation_of_failure (hcrc : crc16 (s.shadow.image scope) = x) {y : Failure}
    (hfails : s.scopeFailure scope = some y) :
    s.endActivation scope = State.answer { s with activation := none } f .inconsistent
      (activateData (some (crc16 (s.shadow.image scope))) (some y)) := by
  have hsame : ({ s with activation := none } : State).scopeFailure scope = some y := by
    cases scope <;> exact hfails
  simp only [State.endActivation, h, if_true, hsame]
  exact if_neg (not_not_intro hcrc)

theorem State.endActivation_of_success (hcrc : crc16 (s.shadow.image scope) = x)
    (hpasses : s.scopeFailure scope = none) :
    s.endActivation scope = (State.activated { s with activation := none } scope).answer f .ok
      (activateData (some (crc16 (s.shadow.image scope))) none) := by
  have hsame : ({ s with activation := none } : State).scopeFailure scope = none := by
    cases scope <;> exact hpasses
  simp only [State.endActivation, h, if_true, hsame]
  exact if_neg (not_not_intro hcrc)

end

/-- The completion of a scope. -/
theorem exec_completion (dt : Nat) (s : State) (scope : Scope) :
    exec (match scope with | .all => .activateAllCompletion dt | .zones => .activateZonesCompletion dt) s =
      .next ((s.advance dt).endActivation scope) := by
  cases scope <;> rfl

/-- Settles O50: the CRC, then the checks, then the effect of the scope. -/
theorem activationEndsWithOneReplacement : Obligations.ActivationEndsWithOneReplacement := by
  intro dt s scope x f hline hactivation u crc crcBytes c a
  have hactivation' : (s.advance dt).activation = some ⟨scope, x, f⟩ := hactivation
  have hexec : exec c s = .next ((s.advance dt).endActivation scope) := exec_completion dt s scope
  have hline' : u.resetLine = .negated := hline
  have hfailure : (s.advance dt).scopeFailure scope = s.scopeFailure scope := by cases scope <;> rfl
  refine ⟨fun hcrc => ?_, fun y hcrc hfirst => ?_, fun hcrc hnone hscope => ?_, fun hcrc hnone hscope => ?_⟩
  · rw [hexec, State.endActivation_of_mismatch hactivation' hcrc, State.answer_eq_replied hline', activateData_crc]
    rfl
  · have hfails := hfailure.trans ((s.scopeFailure_eq_some_iff scope y).2 hfirst)
    rw [hexec, State.endActivation_of_failure hactivation' hcrc hfails, State.answer_eq_replied hline',
      activateData_crc]
    rfl
  · have hpasses := hfailure.trans ((s.scopeFailure_eq_none_iff scope).2 hnone)
    subst hscope
    rw [hexec, State.endActivation_of_success hactivation' hcrc hpasses, State.activated_all_eq,
      State.answer_eq_replied (by exact hline'), activateData_crc]
    rfl
  · have hpasses := hfailure.trans ((s.scopeFailure_eq_none_iff scope).2 hnone)
    subst hscope
    rw [hexec, State.endActivation_of_success hactivation' hcrc hpasses, State.activated,
      State.answer_eq_replied (by exact hline'), activateData_crc]
    rfl

end Sys2Proof.Machine
end


section
/-! The controller's record fits its state (sections 4.1 to 4.3): what the invariant on controllers asks of one channel,
the form it takes for a channel that holds a hoist record, and the records that the changes of state leave. -/

namespace Sys2Proof.Machine

/-- One controller fits its state and agrees with the configuration, outside a full reset. -/
structure Controller.Agrees (k : Controller) (filled : Bool) : Prop where
  fits : k.Fits
  without : filled = false → (k.state = .unconfigured ∨ k.state = .tripped) ∧ k.emission = none ∧ k.feedback = none
  configured : filled = true → k.state ≠ .unconfigured
  timers : filled = true → k.feedback.isSome = true ∧ (k.emission.isSome = true ↔ k.state ≠ .trafficLive)

/-- The record of a channel with an ACTIVE hoist record: its timers run as its state asks. -/
structure Controller.Live (k : Controller) : Prop where
  fits : k.Fits
  configured : k.state ≠ .unconfigured
  feedback : k.feedback.isSome = true
  emission : k.emission.isSome = true ↔ k.state ≠ .trafficLive

theorem Controller.agrees_filled_iff (k : Controller) : k.Agrees true ↔ k.Live :=
  ⟨fun h => ⟨h.fits, h.configured rfl, (h.timers rfl).1, (h.timers rfl).2⟩,
    fun h => ⟨h.fits, nofun, fun _ => h.configured, fun _ => ⟨h.feedback, h.emission⟩⟩⟩

/-- Only a channel with a hoist record is in a state other than UNCONFIGURED and TRIPPED (R79, R147). -/
theorem Controller.Agrees.filled {k : Controller} {filled : Bool} (h : k.Agrees filled)
    (hconfigured : k.state ≠ .unconfigured) (hfree : k.state ≠ .tripped) : filled = true := by
  cases filled with
  | true => rfl
  | false => exact absurd (h.without rfl).1 (by simp [hconfigured, hfree])

theorem State.controllersFit_iff {s : State} (hawake : s.resetLine ≠ .fullReset) :
    s.ControllersFit ↔ ∀ c, (s.ctl c).Agrees s.activeFilled :=
  ⟨fun h c => ⟨h.fits c, fun hf => h.without hf c, fun hf => h.configured hf c, fun hf => h.timers hf hawake c⟩,
    fun h => ⟨fun c => (h c).fits, fun hf c => (h c).without hf, fun hf c => (h c).configured hf,
      fun hf _ c => (h c).timers hf, fun hline => absurd hline hawake⟩⟩

/-! ## What a record does not hold in a state -/

section Absent
variable {k : Controller} (h : k.Fits)
include h

theorem Controller.Fits.slot_none (hstate : k.state ≠ .injected) : k.slot = none :=
  Option.not_isSome_iff_eq_none.1 fun hs => hstate (h.slot.1 hs)

theorem Controller.Fits.duration_none (hstate : k.state ≠ .injected) : k.duration = none :=
  Option.not_isSome_iff_eq_none.1 fun hs => hstate (h.duration.1 hs)

theorem Controller.Fits.current_none (hstate : k.state.holdsDescriptor = false) : k.current = none :=
  Option.not_isSome_iff_eq_none.1 fun hs => by simp [h.current.1 hs] at hstate

theorem Controller.Fits.demand_none (hstate : k.state ≠ .trafficLive) : k.demand = none :=
  Option.not_isSome_iff_eq_none.1 fun hs => hstate (h.demand.1 hs)

theorem Controller.Fits.prove_none (hstate : k.state ≠ .releasingProve) : k.prove = none :=
  Option.not_isSome_iff_eq_none.1 fun hs => hstate (h.prove.1 hs)

theorem Controller.Fits.brake_none (hstate : k.state.confirming = false) : k.brake = none :=
  Option.not_isSome_iff_eq_none.1 fun hs => by simp [h.brake hs] at hstate

theorem Controller.Fits.dwell_none (hstate : k.state ≠ .list) : k.dwell = none :=
  Option.not_isSome_iff_eq_none.1 fun hs => hstate (h.dwell hs).1

theorem Controller.Fits.carried_none (hstate : k.state.holdsDescriptor = false) : k.carried = none :=
  Option.not_isSome_iff_eq_none.1 fun hs => by simpa [h.current_none hstate] using (h.carried hs).1

theorem Controller.Fits.watch_none (hstate : k.state.watched = false) : k.watch = none :=
  Option.not_isSome_iff_eq_none.1 fun hs => by simp [h.watch hs] at hstate

end Absent

/-! ## Records that hold nothing -/

/-- A record without injection, descriptor, demand, prove and dwell timers, its timers running: it fits any state that
asks for none of them. -/
structure Controller.Empty (k : Controller) : Prop where
  slot : k.slot = none
  duration : k.duration = none
  current : k.current = none
  demand : k.demand = none
  prove : k.prove = none
  dwell : k.dwell = none
  carried : k.carried = none
  brake : k.brake.isSome = true → k.state.confirming = true
  watch : k.watch.isSome = true → k.state.watched = true
  feedback : k.feedback.isSome = true
  emission : k.emission.isSome = true

/-- The states of a channel with a hoist record that hold nothing (R76, R81, R125, R140). -/
def ChanState.plain : ChanState → Bool
  | .trafficLapsed | .held | .stopping .held | .parked | .parkingRamp | .parkingSet | .releasingOpen | .fault
  | .tripped => true
  | _ => false

theorem ChanState.plain_spec {st : ChanState} (h : st.plain = true) :
    st ≠ .injected ∧ st ≠ .trafficLive ∧ st ≠ .releasingProve ∧ st ≠ .list ∧ st ≠ .unconfigured
      ∧ st.holdsDescriptor = false := by
  cases st with
  | stopping d => cases d <;> simp_all [ChanState.plain, ChanState.holdsDescriptor]
  | _ => simp_all [ChanState.plain, ChanState.holdsDescriptor]

theorem Controller.Empty.live {k : Controller} (h : k.Empty) (hstate : k.state.plain = true) : k.Live := by
  obtain ⟨hinjected, hlive, hprove, hlist, hconfigured, hholds⟩ := ChanState.plain_spec hstate
  refine ⟨⟨?_, ?_, ?_, ?_, ?_, h.brake, ?_, ?_, h.watch⟩, hconfigured, h.feedback, by simp [h.emission, hlive]⟩
  · simp [h.slot, hinjected]
  · simp [h.duration, hinjected]
  · simp [h.current, hholds]
  · simp [h.demand, hlive]
  · simp [h.prove, hprove]
  · simp [h.dwell]
  · simp [h.carried]

theorem Controller.Live.empty {k : Controller} (h : k.Live) (hstate : k.state.plain = true) : k.Empty := by
  obtain ⟨hinjected, hlive, hprove, hlist, hconfigured, hholds⟩ := ChanState.plain_spec hstate
  exact ⟨h.fits.slot_none hinjected, h.fits.duration_none hinjected, h.fits.current_none hholds,
    h.fits.demand_none hlive, h.fits.prove_none hprove, h.fits.dwell_none hlist, h.fits.carried_none hholds,
    h.fits.brake, h.fits.watch, h.feedback, h.emission.2 hlive⟩

/-! ## Records free to stop or to take up a list -/

/-- The record runs no injection, no demand, prove or brake confirm timer; its timers run. -/
structure Controller.Idle (k : Controller) : Prop where
  slot : k.slot = none
  duration : k.duration = none
  demand : k.demand = none
  prove : k.prove = none
  brake : k.brake = none
  feedback : k.feedback.isSome = true
  emission : k.emission.isSome = true

/-- The states in which no injection, demand, prove or brake confirm timer runs. -/
def ChanState.idle : ChanState → Bool
  | .trafficLapsed | .held | .list | .suspended | .stopping _ => true
  | _ => false

theorem Controller.Live.idle {k : Controller} (h : k.Live) (hstate : k.state.idle = true) : k.Idle := by
  have hinjected : k.state ≠ .injected := fun heq => by simp [heq, ChanState.idle] at hstate
  have hlive : k.state ≠ .trafficLive := fun heq => by simp [heq, ChanState.idle] at hstate
  have hprove : k.state ≠ .releasingProve := fun heq => by simp [heq, ChanState.idle] at hstate
  have hbrake : k.state.confirming = false := by
    cases hk : k.state <;> simp_all [ChanState.idle, ChanState.confirming]
  exact ⟨h.fits.slot_none hinjected, h.fits.duration_none hinjected, h.fits.demand_none hlive,
    h.fits.prove_none hprove, h.fits.brake_none hbrake, h.feedback, h.emission.2 hlive⟩

/-- An idle record with a current descriptor fits LIST, SUSPENDED and the way to it (R76, R108, R131). -/
theorem Controller.Idle.live {k : Controller} (h : k.Idle) (hcurrent : k.current.isSome = true)
    (hstate : k.state.holdsDescriptor = true) (hdwell : k.dwell.isSome = true → k.state = .list ∧ k.listPhase = .dwell)
    (hcarried : k.carried.isSome = true → k.listPhase = .approach)
    (hwatch : k.watch.isSome = true → k.state.watched = true) : k.Live := by
  have hne : ∀ st : ChanState, st.holdsDescriptor = false → k.state ≠ st := fun st hst heq => by
    simp [heq, hst] at hstate
  refine ⟨⟨?_, ?_, ?_, ?_, ?_, ?_, hdwell, fun hs => ⟨hcurrent, hcarried hs⟩, hwatch⟩, hne _ rfl, h.feedback, ?_⟩
  · simp [h.slot, hne .injected rfl]
  · simp [h.duration, hne .injected rfl]
  · simp [hcurrent, hstate]
  · simp [h.demand, hne .trafficLive rfl]
  · simp [h.prove, hne .releasingProve rfl]
  · simp [h.brake]
  · simp [h.emission, hne .trafficLive rfl]

/-- A stall watch is left running in watched states alone (R45). -/
theorem State.watched_of_watchIn {s : State} {c : Chan} {st : ChanState} (h : (s.watchIn c st).isSome = true) :
    st.watched = true := by
  unfold State.watchIn at h
  split at h
  · exact (‹_ ∧ _›).1
  · simp at h

theorem State.emissionOn_isSome (s : State) (c : Chan) : (s.emissionOn c).isSome = true := by
  simp [State.emissionOn]

/-! ## The records that the changes of state leave -/

/-- A stop leaves a record that fits HELD or the way to it (R89, R91). -/
theorem State.stoppedCtl_live {s : State} {c : Chan} (hprove : (s.ctl c).prove = none)
    (hbrake : (s.ctl c).brake = none) (hfeedback : (s.ctl c).feedback.isSome = true) : (s.stoppedCtl c).Live := by
  have hempty : (s.stoppedCtl c).Empty := by
    refine ⟨rfl, rfl, rfl, rfl, hprove, rfl, rfl, fun h => ?_, fun h => ?_, hfeedback, s.emissionOn_isSome c⟩
    · have hb : (s.stoppedCtl c).brake = none := hbrake
      simp [hb] at h
    · by_cases hr : s.rest c = true
      · simp [State.stoppedCtl, hr] at h
      · simpa [State.stoppedCtl, hr] using
          s.watched_of_watchIn (st := .stopping .held) (by simpa [State.stoppedCtl, hr] using h)
  refine hempty.live ?_
  by_cases hr : s.rest c = true <;> simp [State.stoppedCtl, hr, ChanState.plain]

theorem State.stoppedCtl_state (s : State) (c : Chan) :
    (s.stoppedCtl c).state = .held ∨ (s.stoppedCtl c).state = .stopping .held := by
  by_cases hr : s.rest c = true <;> simp [State.stoppedCtl, hr]

/-- A stop toward SUSPENDED leaves a record that fits SUSPENDED or the way to it (R89, R91, R116). -/
theorem State.suspendedCtl_live {s : State} {c : Chan} (h : (s.ctl c).Idle) (i : Fin 256) (carried : Option Nat) :
    (s.suspendedCtl c i carried).Live := by
  have hidle : (s.suspendedCtl c i carried).Idle :=
    ⟨h.slot, h.duration, h.demand, h.prove, h.brake, h.feedback, s.emissionOn_isSome c⟩
  refine hidle.live rfl ?_ (fun hd => by simp [State.suspendedCtl] at hd) (fun _ => rfl) fun hw => ?_
  · by_cases hr : s.rest c = true <;> simp [State.suspendedCtl, hr, ChanState.holdsDescriptor]
  · by_cases hr : s.rest c = true
    · simp [State.suspendedCtl, hr] at hw
    · simpa [State.suspendedCtl, hr] using
        s.watched_of_watchIn (st := .stopping .suspended) (by simpa [State.suspendedCtl, hr] using hw)

theorem State.suspendedCtl_state (s : State) (c : Chan) (i : Fin 256) (carried : Option Nat) :
    (s.suspendedCtl c i carried).state = .suspended ∨ (s.suspendedCtl c i carried).state = .stopping .suspended := by
  by_cases hr : s.rest c = true <;> simp [State.suspendedCtl, hr]

/-- FAULT holds nothing (R93). -/
theorem State.faultCtl_live {s : State} {c : Chan} (h : (s.ctl c).feedback.isSome = true) : (s.faultCtl c).Live :=
  Controller.Empty.live ⟨rfl, rfl, rfl, rfl, rfl, rfl, rfl, nofun, nofun, h, s.emissionOn_isSome c⟩ rfl

/-- A record with list and injection given up fits any state that holds nothing (R93, R98, R136, R137). -/
theorem Controller.bare_live {k : Controller} {st : ChanState} {brake emission : Option Nat} {m : Moment}
    (hfeedback : k.feedback.isSome = true) (hstate : st.plain = true)
    (hbrake : brake.isSome = true → st.confirming = true) (hemission : emission.isSome = true) :
    ({ k.bare with
      state := st, demand := none, prove := none, brake := brake, watch := none, emission := emission,
      zeroMoment := m } : Controller).Live :=
  Controller.Empty.live ⟨rfl, rfl, rfl, rfl, rfl, rfl, rfl, hbrake, nofun, hfeedback, hemission⟩ hstate

/-- The end of a list leaves a record that fits HELD (R114, R120). -/
theorem Controller.Idle.ended {k : Controller} (h : k.Idle) :
    ({ k.unlisted with state := .held, watch := none } : Controller).Live :=
  Controller.Empty.live ⟨h.slot, h.duration, rfl, h.demand, h.prove, rfl, rfl,
    fun hb => by simp [Controller.unlisted, h.brake] at hb, nofun, h.feedback, h.emission⟩ rfl

/-- A descriptor taken up leaves a record that fits LIST (R108, R131). -/
theorem Controller.Idle.listed {k : Controller} (h : k.Idle) (hstate : k.state = .list) (i : Fin 256)
    (evaluated : Bool) (carried : Option Nat) :
    ({ k with
      current := some i, listPhase := .approach, evaluated := evaluated, dwell := none,
      carried := carried } : Controller).Live :=
  Controller.Idle.live ⟨h.slot, h.duration, h.demand, h.prove, h.brake, h.feedback, h.emission⟩ rfl
    (congrArg ChanState.holdsDescriptor hstate) nofun (fun _ => rfl) fun _ => congrArg ChanState.watched hstate

/-! ## Changes that leave the state as it is -/

/-- The record stays in its state with the same timers running, the brake confirm timer and the stall watch aside. -/
structure Controller.Resembles (k' k : Controller) : Prop where
  state : k'.state = k.state
  listPhase : k'.listPhase = k.listPhase
  slot : k'.slot.isSome = k.slot.isSome
  duration : k'.duration.isSome = k.duration.isSome
  current : k'.current.isSome = k.current.isSome
  demand : k'.demand.isSome = k.demand.isSome
  prove : k'.prove.isSome = k.prove.isSome
  dwell : k'.dwell.isSome = k.dwell.isSome
  carried : k'.carried.isSome = k.carried.isSome
  feedback : k'.feedback.isSome = k.feedback.isSome
  emission : k'.emission.isSome = k.emission.isSome
  brake : k'.brake.isSome = true → k.brake.isSome = true ∨ k.state.confirming = true
  watch : k'.watch.isSome = true → k.watch.isSome = true ∨ k.state.watched = true

theorem Controller.Resembles.fits {k k' : Controller} (h : k'.Resembles k) (hk : k.Fits) : k'.Fits where
  slot := by rw [h.slot, h.state]; exact hk.slot
  duration := by rw [h.duration, h.state]; exact hk.duration
  current := by rw [h.current, h.state]; exact hk.current
  demand := by rw [h.demand, h.state]; exact hk.demand
  prove := by rw [h.prove, h.state]; exact hk.prove
  brake hb := by rw [h.state]; exact (h.brake hb).elim hk.brake id
  dwell := by rw [h.dwell, h.state, h.listPhase]; exact hk.dwell
  carried := by rw [h.carried, h.current, h.listPhase]; exact hk.carried
  watch hw := by rw [h.state]; exact (h.watch hw).elim hk.watch id

theorem Controller.Resembles.agrees {k k' : Controller} {filled : Bool} (h : k'.Resembles k) (hk : k.Agrees filled) :
    k'.Agrees filled where
  fits := h.fits hk.fits
  without hf := by
    obtain ⟨hstate, hemission, hfeedback⟩ := hk.without hf
    rw [h.state]
    exact ⟨hstate, by simpa [hemission] using h.emission, by simpa [hfeedback] using h.feedback⟩
  configured hf := by rw [h.state]; exact hk.configured hf
  timers hf := by rw [h.feedback, h.emission, h.state]; exact hk.timers hf

end Sys2Proof.Machine
end


section
/-! What a command does to the part while no activation ends and no reset falls: a chain of changes, each to one thing
and each with what the invariants ask of it. The changes are stated from the state `t` that the chain has reached; the
gate's are bounded by the state `s` before the command. -/

namespace Sys2Proof.Machine

/-- The waiting drive entries of channel `c` command standstill: speed 0, brake SET, mark FORCED (R72, R73). -/
def Port.Stands (q : Port) (c : Chan) : Prop :=
  ∀ e ∈ q.tx, e.kind = .drive c → e.frame.payload.take 4 = [0x00#8, 0x00#8, 0x01#8, 0x04#8]

/-- A change of channel `c`'s controller record to `k`: outside a full reset, it goes on fitting, TRIPPED is not left
while the line is asserted (R148), and a forced state is entered with the waiting drive entry rewritten (R72). -/
structure State.CtlMove (t : State) (c : Chan) (k : Controller) : Prop where
  awake : t.resetLine ≠ .fullReset
  agrees : (t.ctl c).Agrees t.activeFilled → k.Agrees t.activeFilled
  tripped : t.tripLine = true → (t.ctl c).state = .tripped → k.state = .tripped
  forced : k.state.forced = true → (t.ctl c).state.forced = true ∨ t.portD.Stands c

/-- A change of port U to `q` keeps its bounds (R155 to R165), and what is empty in reset stays so (R151). -/
structure State.UpMove (t : State) (q : Port) : Prop where
  bounded : t.portU.Bounded → q.Bounded
  passing : t.portU.tx.countP TxEntry.isPassing ≤ 14 → q.tx.countP TxEntry.isPassing ≤ 14
  slots : t.portU.tx.length + t.reserved.toNat ≤ 16 → q.tx.length + t.reserved.toNat ≤ 16
  noDrive : (∀ e ∈ t.portU.tx, ∀ c, e.kind ≠ .drive c) → ∀ e ∈ q.tx, ∀ c, e.kind ≠ .drive c
  held : t.resetLine ≠ .negated → t.portU.rx = [] → t.portU.tx = [] → q.rx = [] ∧ q.tx = []

/-- A change of port D to `q` keeps its bounds (R155 to R165), what is empty in reset stays so (R151), and what waits
for a channel in a forced state commands standstill (R72, R73). -/
structure State.DownMove (t : State) (q : Port) : Prop where
  bounded : t.portD.Bounded → q.Bounded
  passing : t.portD.tx.countP TxEntry.isPassing ≤ 12 → q.tx.countP TxEntry.isPassing ≤ 12
  drives : ∀ c, t.portD.tx.countP (TxEntry.isDrive c) ≤ 1 → q.tx.countP (TxEntry.isDrive c) ≤ 1
  noReply : (∀ e ∈ t.portD.tx, e.kind ≠ .reply ∧ e.kind ≠ .resetReply) →
    ∀ e ∈ q.tx, e.kind ≠ .reply ∧ e.kind ≠ .resetReply
  stands : ∀ c, (t.ctl c).state.forced = true → t.portD.Stands c → q.Stands c
  heldRx : t.resetLine ≠ .negated → t.portD.rx = [] → q.rx = []
  heldTx : t.resetLine ≠ .negated → t.portD.tx = [] → q.tx = []

/-- A change of channel `c`'s gate to `g` in a command that began in `s`: the output stays within its caps (R65), does
not pass to the other side of 0 (R64), and does not grow in a freeze (R53). -/
structure State.GateMove (s t : State) (c : Chan) (g : Gate) : Prop where
  sound : (t.gate c).Sound → g.Sound
  side : 0 ≤ (s.gate c).out * g.out
  frozen : s.freeze = true → g.out.natAbs ≤ (s.gate c).out.natAbs

/-- A change of descriptor memory: by LIST_WRITE alone, the guarded descriptors kept (R104, R105). -/
structure State.DescsMove (i : Instr) (s : State) (v : Vector Descriptor 256) : Prop where
  byListWrite : ∃ dt, i = .listWrite dt
  guarded : ∀ j : Fin 256, s.guarded j = true → v[j] = s.descs[j]

/-- Command `i`, begun in `s`, comes to `t` by changes of one thing at a time. -/
inductive State.Works (i : Instr) (s : State) : State → Prop
  | refl : State.Works i s s
  | ctl {t c k} : State.Works i s t → t.CtlMove c k → State.Works i s (t.withCtl c k)
  | reckon {t c r} : State.Works i s t → ((t.reckon c).Sound → r.Sound) →
      State.Works i s (t.withChan c { t.chan c with reckon := r })
  | gate {t c g} : State.Works i s t → s.GateMove t c g → State.Works i s (t.withChan c { t.chan c with gate := g })
  | notes {t c} (n : Source 18) : State.Works i s t → State.Works i s (t.withChan c { t.chan c with notes := n })
  | sup {t} (n : Source 12) : State.Works i s t → State.Works i s { t with supNotes := n }
  | portU {t q} : State.Works i s t → t.UpMove q → State.Works i s { t with portU := q }
  | portD {t q} : State.Works i s t → t.DownMove q → State.Works i s { t with portD := q }
  | request {t} (f : Frame) : State.Works i s t → t.requests.length < 4 →
      State.Works i s { t with requests := t.requests ++ [f] }
  | shadow {t} (b : Bank) (differs : Bool) : State.Works i s t →
      State.Works i s { t with shadow := b, shadowDiffers := differs }
  | freeze {t} (b : Bool) : State.Works i s t → State.Works i s { t with freeze := b }
  | resetPending {t} (r : ResetScope) : State.Works i s t → t.resetLine = .negated →
      State.Works i s { t with resetPending := some r }
  | descs {t v} : State.Works i s t → s.DescsMove i v → State.Works i s { t with descs := v }

/-! ## What a chain of changes leaves as it was -/

/-- What no chain of changes touches: the queue of commands, the clock, the lines, the ACTIVE bank, the reservation and
the activation. -/
structure State.Framed (s t : State) : Prop where
  pending : t.pending = s.pending
  now : t.now = s.now
  serial : t.serial = s.serial
  tripLine : t.tripLine = s.tripLine
  resetLine : t.resetLine = s.resetLine
  active : t.active = s.active
  activeFilled : t.activeFilled = s.activeFilled
  reserved : t.reserved = s.reserved
  activation : t.activation = s.activation

theorem State.Works.framed {i : Instr} {s t : State} (h : State.Works i s t) : s.Framed t := by
  induction h with
  | refl => exact ⟨rfl, rfl, rfl, rfl, rfl, rfl, rfl, rfl, rfl⟩
  | _ => rename_i ih; exact ⟨ih.pending, ih.now, ih.serial, ih.tripLine, ih.resetLine, ih.active, ih.activeFilled,
      ih.reserved, ih.activation⟩

end Sys2Proof.Machine
end


section
/-! Changes of the ports: frames handed over, frames taken, bytes received, waiting drive entries rewritten. -/

namespace Sys2Proof.Machine

section
variable {i : Instr} {s t : State}

/-! ## Queues -/

/-- A STUCK port has an empty transmit queue; beyond that a port's bounds do not speak of it (R160, R161). -/
theorem Port.Bounded.withTx {q : Port} (h : q.Bounded) {tx : List TxEntry} (hstuck : q.live = false → tx = []) :
    ({ q with tx := tx } : Port).Bounded :=
  ⟨h.rxRoom, h.rxChecked, h.receivingRoom, h.huntingEmpty, fun hlive =>
    ⟨(h.stuckEmpty hlive).1, hstuck hlive, (h.stuckEmpty hlive).2.2⟩⟩

/-- A change of one port that enters nothing in its transmit queue. -/
theorem State.Works.port {p : PortId} {g : Port → Port} (h : State.Works i s t)
    (hbounded : (t.port p).Bounded → (g (t.port p)).Bounded) (hsub : (g (t.port p)).tx.Sublist (t.port p).tx)
    (hrx : t.resetLine ≠ .negated → (t.port p).rx = [] → (g (t.port p)).rx = []) :
    State.Works i s (t.modPort p g) := by
  cases p with
  | u =>
    refine h.portU ⟨hbounded, fun hp => (hsub.countP_le).trans hp, fun hs => ?_, fun hd e he => hd e (hsub.mem he),
      fun hline hr ht => ⟨hrx hline hr, ?_⟩⟩
    · have := hsub.length_le
      simp only [State.port] at this
      omega
    · exact List.sublist_nil.1 (ht ▸ hsub)
  | d =>
    exact h.portD ⟨hbounded, fun hp => (hsub.countP_le).trans hp, fun c hc => (hsub.countP_le).trans hc,
      fun hr e he => hr e (hsub.mem he), fun c _ hstands e he => hstands e (hsub.mem he), hrx,
      fun _ ht => List.sublist_nil.1 (ht ▸ hsub)⟩

theorem State.Works.raisePort (h : State.Works i s t) (k : SupKind) (p : PortId) :
    State.Works i s (t.raisePort k p) :=
  h.sup _

/-- An entry joins port U's queue: a passing one within its bound, a reply where a slot is free (R165). -/
theorem State.Works.appendUp (h : State.Works i s t) (hopen : t.portOpen .u = true) {e : TxEntry}
    (hkind : ∀ c, e.kind ≠ .drive c) (hpassing : e.isPassing = true → t.portU.tx.countP TxEntry.isPassing < 14)
    (hslot : t.portU.tx.length + t.reserved.toNat < 16) : State.Works i s (t.append .u e) := by
  obtain ⟨hlive, hline⟩ := (t.portOpen_iff .u).1 hopen
  refine h.portU ⟨fun hb => hb.withTx fun hstuck => ?_, fun hp => ?_, fun _ => ?_, fun hd x hx => ?_,
    fun hne => absurd hline hne⟩
  · exact absurd hstuck (by rw [show t.portU.live = true from hlive]; decide)
  · rw [List.countP_append, List.countP_singleton]
    split
    · exact hpassing ‹_›
    · exact hp
  · rw [List.length_append, List.length_singleton]
    omega
  · rcases List.mem_append.1 hx with hx | hx
    · exact hd x hx
    · rw [List.mem_singleton.1 hx]; exact hkind

theorem State.Works.passUp (h : State.Works i s t) (f : Frame) : State.Works i s (t.passUp f) := by
  by_cases hopen : t.portOpen .u = true
  · rw [State.passUp_of_open hopen]
    split
    · exact h.appendUp hopen nofun (fun _ => (‹_ ∧ _› : _ ∧ _).1) (‹_ ∧ _› : _ ∧ _).2
    · exact h.raisePort _ _
  · rw [State.passUp_of_closed hopen]; exact h

theorem State.Works.sendReply (h : State.Works i s t) (f : Frame) (hslot : t.upSlots < Config.txDepth) :
    State.Works i s (t.sendReply .reply f) := by
  unfold State.sendReply
  split
  · exact h.appendUp ‹_› nofun nofun hslot
  · exact h

theorem State.Works.passDown (h : State.Works i s t) (f : Frame) : State.Works i s (t.passDown f) := by
  by_cases hopen : t.portOpen .d = true
  · obtain ⟨hlive, hline⟩ := (t.portOpen_iff .d).1 hopen
    rw [State.passDown_of_open hopen]
    split
    · refine h.portD ⟨fun hb => hb.withTx fun hstuck => ?_, fun _ => ?_, fun c hc => ?_, fun hr x hx => ?_,
        fun c _ hstands x hx hk => ?_, fun hne => absurd hline hne, fun hne => absurd hline hne⟩
      · exact absurd hstuck (by rw [show t.portD.live = true from hlive]; decide)
      · simpa [List.countP_append, TxEntry.isPassing] using Nat.succ_le_of_lt ‹_›
      · simpa [List.countP_append, TxEntry.isDrive] using hc
      · rcases List.mem_append.1 hx with hx | hx
        · exact hr x hx
        · simp [List.mem_singleton.1 hx]
      · rcases List.mem_append.1 hx with hx | hx
        · exact hstands x hx hk
        · simp [List.mem_singleton.1 hx] at hk
    · exact h.raisePort _ _
  · rw [State.passDown_of_closed hopen]; exact h

/-! ## Drive entries -/

theorem mem_placeDrive {q : List TxEntry} {c : Chan} {f : Frame} {e : TxEntry} (he : e ∈ placeDrive q c f) :
    e ∈ q ∨ e = ⟨.drive c, f⟩ := by
  unfold placeDrive at he
  split at he
  · obtain ⟨x, hx, rfl⟩ := List.mem_map.1 he
    split
    · exact .inr rfl
    · exact .inl hx
  · simpa using he

/-- The entry's own place is the one that is filled again, so the kinds stay, or its kind joins as the newest (R163). -/
theorem kinds_placeDrive (q : List TxEntry) (c : Chan) (f : Frame) :
    (placeDrive q c f).map TxEntry.kind = q.map TxEntry.kind
    ∨ (q.countP (TxEntry.isDrive c) = 0
      ∧ (placeDrive q c f).map TxEntry.kind = q.map TxEntry.kind ++ [.drive c]) := by
  unfold placeDrive
  split
  · left
    rw [List.map_map]
    refine List.map_congr_left fun e _ => ?_
    by_cases hd : e.isDrive c = true
    · simp [hd, (TxEntry.isDrive_iff c e).1 hd]
    · simp [hd]
  · rename_i hnone
    right
    refine ⟨List.countP_eq_zero.2 fun e he hd => hnone (List.any_eq_true.2 ⟨e, he, hd⟩), by simp⟩

theorem countP_isPassing (q : List TxEntry) :
    q.countP TxEntry.isPassing = (q.map TxEntry.kind).countP (· == .passing) := by
  rw [List.countP_map]; rfl

theorem countP_isDrive (q : List TxEntry) (c : Chan) :
    q.countP (TxEntry.isDrive c) = (q.map TxEntry.kind).countP (· == .drive c) := by
  rw [List.countP_map]; rfl

theorem placeDrive_passing (q : List TxEntry) (c : Chan) (f : Frame) :
    (placeDrive q c f).countP TxEntry.isPassing = q.countP TxEntry.isPassing := by
  rw [countP_isPassing, countP_isPassing]
  rcases kinds_placeDrive q c f with h | ⟨-, h⟩ <;> rw [h]
  simp

theorem placeDrive_drives {q : List TxEntry} {d : Chan} (h : q.countP (TxEntry.isDrive d) ≤ 1) (c : Chan)
    (f : Frame) : (placeDrive q c f).countP (TxEntry.isDrive d) ≤ 1 := by
  rw [countP_isDrive] at h ⊢
  rcases kinds_placeDrive q c f with hk | ⟨hnone, hk⟩ <;> rw [hk]
  · exact h
  · rw [List.countP_append, List.countP_singleton]
    by_cases hd : d = c
    · subst hd
      rw [countP_isDrive] at hnone
      simp [hnone]
    · simpa [Ne.symm hd] using h

/-- The gate hands a drive frame to port D: for a channel in a forced state it commands standstill (R61, R69). -/
theorem State.Works.handDrive (h : State.Works i s t) {c : Chan} {f : Frame}
    (hstands : (t.ctl c).state.forced = true → f.payload.take 4 = [0x00#8, 0x00#8, 0x01#8, 0x04#8]) :
    State.Works i s (t.handDrive c f) := by
  by_cases hopen : t.portOpen .d = true
  · obtain ⟨hlive, hline⟩ := (t.portOpen_iff .d).1 hopen
    rw [State.handDrive_of_open hopen]
    refine h.portD ⟨fun hb => hb.withTx fun hstuck => ?_, fun hp => ?_, fun d hd => placeDrive_drives hd c f,
      fun hr e he => ?_, fun d hforced hd e he hk => ?_, fun hne => absurd hline hne, fun hne => absurd hline hne⟩
    · exact absurd hstuck (by rw [show t.portD.live = true from hlive]; decide)
    · exact (placeDrive_passing _ c f).le.trans hp
    · rcases mem_placeDrive he with he | rfl
      · exact hr e he
      · exact ⟨nofun, nofun⟩
    · rcases mem_placeDrive he with he | rfl
      · exact hd e he hk
      · cases hk; exact hstands hforced
  · rw [State.handDrive_of_closed hopen]; exact h

/-! ## Waiting drive entries rewritten -/

theorem kinds_forceWhere (p : Chan → Bool) (q : List TxEntry) :
    (forceWhere p q).map TxEntry.kind = q.map TxEntry.kind := by
  rw [forceWhere, List.map_map]
  refine List.map_congr_left fun e _ => ?_
  simp only [Function.comp_apply]
  split
  · split
    · rfl
    · rfl
  · rfl

/-- An entry stays as it is, or is a rewritten one, which commands standstill (R72). -/
theorem mem_forceWhere {p : Chan → Bool} {q : List TxEntry} {e : TxEntry} (he : e ∈ forceWhere p q) :
    (e ∈ q ∧ ∀ c, e.kind = .drive c → p c = false)
    ∨ e.frame.payload.take 4 = [0x00#8, 0x00#8, 0x01#8, 0x04#8] := by
  obtain ⟨x, hx, rfl⟩ := List.mem_map.1 he
  split
  · rename_i c hk
    by_cases hp : p c = true
    · right; rw [if_pos hp]; rfl
    · left
      rw [if_neg hp]
      refine ⟨hx, fun d hd => ?_⟩
      rw [hk] at hd
      cases hd
      exact Bool.not_eq_true _ ▸ hp
  · rename_i hk
    exact .inl ⟨hx, fun d hd => absurd hd (hk d)⟩

theorem Port.Stands.forceWhere {q : Port} {c : Chan} (h : q.Stands c) (p : Chan → Bool) :
    ({ q with tx := Machine.forceWhere p q.tx } : Port).Stands c := fun e he hk =>
  (mem_forceWhere he).elim (fun hold => h e hold.1 hk) id

theorem Port.stands_forceWhere (q : Port) {p : Chan → Bool} {c : Chan} (hp : p c = true) :
    ({ q with tx := Machine.forceWhere p q.tx } : Port).Stands c := fun _ he hk =>
  (mem_forceWhere he).elim (fun hold => absurd (hold.2 c hk) (by simp [hp])) id

theorem State.Works.forcing (h : State.Works i s t) (p : Chan → Bool) : State.Works i s (t.forcing p) := by
  refine h.portD ⟨fun hb => hb.withTx fun hstuck => ?_, fun hp => ?_, fun c hc => ?_, fun hr e he => ?_,
    fun c _ hstands => hstands.forceWhere p, fun _ hrx => hrx, fun _ htx => ?_⟩
  · rw [(hb.stuckEmpty hstuck).2.1]; rfl
  · rw [countP_isPassing, kinds_forceWhere, ← countP_isPassing]; exact hp
  · rw [countP_isDrive, kinds_forceWhere, ← countP_isDrive]; exact hc
  · have hk : e.kind ∈ t.portD.tx.map TxEntry.kind := kinds_forceWhere p t.portD.tx ▸ List.mem_map_of_mem he
    obtain ⟨x, hx, hxe⟩ := List.mem_map.1 hk
    exact hxe ▸ hr x hx
  · rw [htx]; rfl

end

end Sys2Proof.Machine
end


section
/-! Changes of state of one channel as changes of its record: stops, faults, parking, release and traffic. -/

namespace Sys2Proof.Machine

section
variable {i : Instr} {s t : State} {c : Chan} {k : Controller}

/-! ## Changes of the controller's record -/

/-- A channel that holds a hoist record and is not TRIPPED goes on with a record that fits (R79, R148). -/
theorem State.CtlMove.of_live (hawake : t.resetLine ≠ .fullReset)
    (hfree : (t.ctl c).state ≠ .unconfigured ∧ (t.ctl c).state ≠ .tripped) (hlive : (t.ctl c).Live → k.Live)
    (hforced : k.state.forced = true → (t.ctl c).state.forced = true ∨ t.portD.Stands c) : t.CtlMove c k where
  awake := hawake
  agrees hk := by
    have hfilled := hk.filled hfree.1 hfree.2
    rw [hfilled, Controller.agrees_filled_iff] at hk ⊢
    exact hlive hk
  tripped _ htripped := absurd htripped hfree.2
  forced := hforced

theorem State.Works.awake (h : State.Works i s t) (hawake : s.resetLine ≠ .fullReset) : t.resetLine ≠ .fullReset :=
  h.framed.resetLine ▸ hawake

/-- A channel comes into a state that is not forced. -/
theorem State.Works.live (h : State.Works i s t) (hawake : s.resetLine ≠ .fullReset)
    (hfree : (t.ctl c).state ≠ .unconfigured ∧ (t.ctl c).state ≠ .tripped) (hlive : (t.ctl c).Live → k.Live)
    (hforced : k.state.forced = false) : State.Works i s (t.withCtl c k) :=
  h.ctl (.of_live (h.awake hawake) hfree hlive (by simp [hforced]))

/-- A channel comes into a forced state, its waiting drive entry rewritten (R72). -/
theorem State.Works.forced (h : State.Works i s t) (hawake : s.resetLine ≠ .fullReset)
    (hfree : (t.ctl c).state ≠ .unconfigured ∧ (t.ctl c).state ≠ .tripped) (hlive : (t.ctl c).Live → k.Live) :
    State.Works i s ((t.forcing fun d => d == c).withCtl c k) :=
  (h.forcing fun d => d == c).ctl
    (.of_live (h.awake hawake) hfree hlive fun _ => .inr (t.portD.stands_forceWhere (beq_self_eq_true c)))

/-- A channel stays in its state. -/
theorem State.Works.resembling (h : State.Works i s t) (hawake : s.resetLine ≠ .fullReset)
    (hk : k.Resembles (t.ctl c)) : State.Works i s (t.withCtl c k) :=
  h.ctl ⟨h.awake hawake, hk.agrees, fun _ htripped => hk.state.trans htripped,
    fun hforced => .inl (hk.state ▸ hforced)⟩

theorem State.withChan_ctl_notes (t : State) (c : Chan) (k : Controller) (n : Source 18) :
    t.withChan c { t.chan c with ctl := k, notes := n } =
      (t.withCtl c k).withChan c { (t.withCtl c k).chan c with notes := n } := by
  simp only [State.withCtl, State.withChan_withChan, State.chan_withChan_same]

/-- A change of the record with a notice. -/
theorem State.Works.told (h : State.Works i s (t.withCtl c k)) (n : Source 18) :
    State.Works i s (t.withChan c { t.chan c with ctl := k, notes := n }) :=
  t.withChan_ctl_notes c k n ▸ h.notes n

theorem State.Works.withCtlNote (h : State.Works i s (t.withCtl c k)) (n : ChanKind) :
    State.Works i s (t.withCtlNote c k n) :=
  h.told _

theorem State.Works.raise (h : State.Works i s t) (c : Chan) (n : ChanKind) : State.Works i s (t.raise c n) :=
  h.notes _

/-! ## Stops -/

/-- The states from which a channel is stopped toward HELD (R92, R117). -/
def ChanState.stoppable : ChanState → Bool
  | .trafficLive | .trafficLapsed | .list | .injected | .suspended => true
  | _ => false

theorem ChanState.stoppable_spec {st : ChanState} (h : st.stoppable = true) :
    (st ≠ .unconfigured ∧ st ≠ .tripped) ∧ st ≠ .releasingProve ∧ st.confirming = false := by
  cases st <;> simp_all [ChanState.stoppable, ChanState.confirming]

/-! ## PARKING phase SET -/

/-- A record that holds nothing goes into PARKING phase SET (R137). -/
theorem State.settingCtl_live (hk : (t.ctl c).Empty) : (t.settingCtl c).Live :=
  Controller.Empty.live ⟨hk.slot, hk.duration, hk.current, rfl, rfl, hk.dwell, hk.carried, fun _ => rfl, nofun,
    hk.feedback, hk.emission⟩ rfl

/-- PARKING phase SET brings the output to 0 (R138). -/
theorem State.Works.settingWith (h : State.Works i s (t.withCtl c k)) : State.Works i s (t.settingWith c k) := by
  have hgate : s.GateMove (t.withCtl c k) c { t.gate c with out := 0 } := by
    have hsame : (t.withCtl c k).gate c = t.gate c := by rw [State.withCtl, State.gate_withChan_same]; rfl
    refine ⟨fun hg => ?_, by simp, by simp⟩
    rw [hsame] at hg
    exact ⟨hg.downCap, hg.upCap, by positivity, by simp⟩
  have hset := h.gate hgate
  simp only [State.withCtl, State.withChan_withChan, State.chan_withChan_same] at hset
  exact hset

variable (hawake : s.resetLine ≠ .fullReset)
include hawake

theorem State.Works.stopped (h : State.Works i s t) (hstate : (t.ctl c).state.stoppable = true) :
    State.Works i s (t.withCtl c (t.stoppedCtl c)) := by
  obtain ⟨hfree, hprove, hbrake⟩ := ChanState.stoppable_spec hstate
  refine h.live hawake hfree (fun hk => State.stoppedCtl_live (hk.fits.prove_none hprove) (hk.fits.brake_none hbrake)
    hk.feedback) ?_
  rcases t.stoppedCtl_state c with hs | hs <;> rw [hs] <;> rfl

theorem State.Works.stopToHeld (h : State.Works i s t) (hstate : (t.ctl c).state.stoppable = true) :
    State.Works i s (t.stopToHeld c) :=
  t.stopToHeld_eq c ▸ h.stopped hawake hstate

theorem State.Works.stopToSuspended (h : State.Works i s t) (hstate : (t.ctl c).state = .list) {j : Fin 256}
    (hj : (t.ctl c).current = some j) : State.Works i s (t.stopToSuspended c) := by
  rw [State.stopToSuspended_eq t c hj]
  refine h.live hawake (by simp [hstate]) (fun hk => State.suspendedCtl_live (hk.idle (by rw [hstate]; rfl)) _ _) ?_
  rcases t.suspendedCtl_state c j (t.ctl c).carried with hs | hs <;> rw [hs] <;> rfl

theorem State.Works.redirectToHeld (h : State.Works i s t) (hstate : (t.ctl c).state = .stopping .suspended) :
    State.Works i s (t.redirectToHeld c) := by
  rw [State.redirectToHeld_eq]
  refine h.live hawake (by simp [hstate]) (fun hk => ?_) rfl
  have hidle : (t.ctl c).Idle := hk.idle (by rw [hstate]; rfl)
  exact Controller.Empty.live ⟨hidle.slot, hidle.duration, rfl, hidle.demand, hidle.prove, rfl, rfl,
    fun hb => by simp [Controller.unlisted, hidle.brake] at hb, State.watched_of_watchIn, hidle.feedback,
    hidle.emission⟩ rfl

/-- A stop that completes: SUSPENDED holds the descriptor that the way to it held (R91). -/
theorem State.Works.tryStop (h : State.Works i s t) : State.Works i s (t.tryStop c) := by
  cases hstate : (t.ctl c).state with
  | stopping d =>
    by_cases hrest : t.rest c = true
    · rw [State.tryStop_of_rest hstate hrest]
      refine h.live hawake (by simp [hstate]) (fun hk => ?_) (by cases d <;> rfl)
      have hidle : (t.ctl c).Idle := hk.idle (by rw [hstate]; rfl)
      cases d with
      | held =>
        have hempty : (t.ctl c).Empty := hk.empty (by rw [hstate]; rfl)
        exact Controller.Empty.live ⟨hempty.slot, hempty.duration, hempty.current, hempty.demand, hempty.prove,
          hempty.dwell, hempty.carried, fun hb => by simp [hidle.brake] at hb, nofun, hempty.feedback,
          hempty.emission⟩ rfl
      | suspended =>
        refine Controller.Idle.live ⟨hidle.slot, hidle.duration, hidle.demand, hidle.prove, hidle.brake,
          hidle.feedback, hidle.emission⟩ (hk.fits.current.2 (by rw [hstate]; rfl)) rfl (fun hd => ?_)
          (fun hcarried => (hk.fits.carried hcarried).2) nofun
        simp [hk.fits.dwell_none (by simp [hstate])] at hd
    · rw [State.tryStop_of_not hstate hrest]; exact h
  | _ => simpa only [State.tryStop, hstate] using h

/-! ## Fault -/

theorem State.Works.faulted (h : State.Works i s t)
    (hfree : (t.ctl c).state ≠ .unconfigured ∧ (t.ctl c).state ≠ .tripped) (n : ChanKind) :
    State.Works i s (t.faulted c n) :=
  (h.forced hawake hfree fun hk => State.faultCtl_live hk.feedback).told _

/-! ## Parking and release -/

/-- Confirmed rest leads from phase RAMP to phase SET (R136). -/
theorem State.Works.tryRampRest (h : State.Works i s t) : State.Works i s (t.tryRampRest c) := by
  unfold State.tryRampRest
  split
  · obtain ⟨hstate, -⟩ := ‹_ ∧ _›
    rw [State.enterParkingSet_eq]
    exact (h.live hawake (by simp [hstate]) (fun hk => State.settingCtl_live (hk.empty (by rw [hstate]; rfl)))
      rfl).settingWith
  · exact h

/-- PARK's two ways (R98) give up list and injection. -/
theorem State.Works.enterParkingRamp (h : State.Works i s t)
    (hfree : (t.ctl c).state ≠ .unconfigured ∧ (t.ctl c).state ≠ .tripped) :
    State.Works i s (t.enterParkingRamp c) := by
  by_cases hrest : t.rest c = true
  · rw [State.enterParkingRamp_of_rest hrest]
    exact (h.live hawake hfree (fun hk => Controller.bare_live (st := .parkingSet) hk.feedback rfl (fun _ => rfl)
      (t.emissionOn_isSome c)) rfl).settingWith
  · by_cases hout : (t.gate c).out = 0
    · rw [State.enterParkingRamp_of_still hout (Bool.not_eq_true _ ▸ hrest)]
      exact h.live hawake hfree (fun hk => Controller.bare_live (st := .parkingRamp) hk.feedback rfl (fun _ => rfl)
        (t.emissionOn_isSome c)) rfl
    · rw [State.enterParkingRamp_of_moving hout]
      exact h.live hawake hfree (fun hk => Controller.bare_live (st := .parkingRamp) hk.feedback rfl (fun _ => rfl)
        (t.emissionOn_isSome c)) rfl

theorem State.Works.parkToSet (h : State.Works i s t)
    (hfree : (t.ctl c).state ≠ .unconfigured ∧ (t.ctl c).state ≠ .tripped) : State.Works i s (t.parkToSet c) := by
  rw [State.parkToSet_eq]
  exact (h.live hawake hfree (fun hk => Controller.bare_live (st := .parkingSet) hk.feedback rfl (fun _ => rfl)
    (t.emissionOn_isSome c)) rfl).settingWith

theorem State.Works.enterParked (h : State.Works i s t) (hstate : (t.ctl c).state = .parkingSet) :
    State.Works i s ((t.enterParked c).raise c .parked) := by
  rw [State.raise_enterParked]
  refine (h.forced hawake (by simp [hstate]) fun hk => ?_).told _
  have hempty : (t.ctl c).Empty := hk.empty (by rw [hstate]; rfl)
  exact Controller.Empty.live ⟨hempty.slot, hempty.duration, hempty.current, hempty.demand, hempty.prove,
    hempty.dwell, hempty.carried, nofun, nofun, hempty.feedback, hempty.emission⟩ rfl

theorem State.Works.enterReleased (h : State.Works i s t) (hstate : (t.ctl c).state = .releasingOpen) :
    State.Works i s (((t.modCtl c fun k => { k with brake := none }).enter c .held).raise c .released) := by
  rw [State.enterReleased_eq]
  refine (h.live hawake (by simp [hstate]) (fun hk => ?_) rfl).withCtlNote _
  have hempty : (t.ctl c).Empty := hk.empty (by rw [hstate]; rfl)
  exact Controller.Empty.live ⟨hempty.slot, hempty.duration, hempty.current, hempty.demand, hempty.prove,
    hempty.dwell, hempty.carried, nofun, nofun, hempty.feedback, hempty.emission⟩ rfl

/-- RELEASING phase OPEN is entered from PARKED or from phase PROVE, which hold nothing but the prove timer (R140,
R141). -/
theorem State.Works.enterOpen (h : State.Works i s t)
    (hstate : (t.ctl c).state = .parked ∨ (t.ctl c).state = .releasingProve) :
    State.Works i s (t.enterOpen c) := by
  rw [State.enterOpen_eq]
  refine h.live hawake (by rcases hstate with hst | hst <;> simp [hst]) (fun hk => ?_) rfl
  have hne : ∀ st : ChanState, st ≠ .parked → st ≠ .releasingProve → (t.ctl c).state ≠ st := fun st h1 h2 heq =>
    hstate.elim (fun hst => h1 (heq.symm.trans hst)) (fun hst => h2 (heq.symm.trans hst))
  have hholds : (t.ctl c).state.holdsDescriptor = false := by rcases hstate with hst | hst <;> rw [hst] <;> rfl
  have hf := hk.fits
  exact Controller.Empty.live ⟨hf.slot_none (hne _ nofun nofun), hf.duration_none (hne _ nofun nofun),
    hf.current_none hholds, hf.demand_none (hne _ nofun nofun), rfl, hf.dwell_none (hne _ nofun nofun),
    hf.carried_none hholds, fun _ => rfl, nofun, hk.feedback, hk.emission.2 (hne _ nofun nofun)⟩ rfl

theorem State.Works.startRelease (h : State.Works i s t) (hstate : (t.ctl c).state = .parked) :
    State.Works i s (t.startRelease c) := by
  by_cases hprove : (t.hoist c).prove = 0
  · have hopen : t.startRelease c = t.enterOpen c := if_pos hprove
    exact hopen ▸ h.enterOpen hawake (.inl hstate)
  · rw [State.startRelease_eq, if_neg hprove]
    refine h.live hawake (by simp [hstate]) (fun hk => ?_) rfl
    have hempty : (t.ctl c).Empty := hk.empty (by rw [hstate]; rfl)
    have hbrake : (t.ctl c).brake = none := hk.fits.brake_none (by rw [hstate]; rfl)
    refine ⟨⟨?_, ?_, ?_, ?_, ?_, ?_, ?_, ?_, nofun⟩, nofun, hempty.feedback, ?_⟩
    · simp [hempty.slot]
    · simp [hempty.duration]
    · simp [hempty.current, ChanState.holdsDescriptor]
    · simp [hempty.demand]
    · simp
    · simp [hbrake]
    · simp [hempty.dwell]
    · simp [hempty.carried]
    · simp [hempty.emission]

end

end Sys2Proof.Machine
end


section
/-! Move lists, traffic and injections as changes of the controller's record. -/

namespace Sys2Proof.Machine

theorem State.withCtl_withCtl (t : State) (c : Chan) (k k' : Controller) :
    (t.withCtl c k).withCtl c k' = t.withCtl c k' := by
  simp only [State.withCtl, State.withChan_withChan, State.chan_withChan_same]

theorem State.withCtl_ctl (t : State) (c : Chan) : t.withCtl c (t.ctl c) = t := t.withChan_chan c

theorem Controller.Live.unevaluated {k : Controller} (h : k.Live) :
    ({ k with evaluated := false } : Controller).Live :=
  ⟨⟨h.fits.slot, h.fits.duration, h.fits.current, h.fits.demand, h.fits.prove, h.fits.brake, h.fits.dwell,
    h.fits.carried, h.fits.watch⟩, h.configured, h.feedback, h.emission⟩

section
variable {i : Instr} {s t : State} {c : Chan} {k : Controller} (hawake : s.resetLine ≠ .fullReset)
include hawake

/-! ## Lists -/

/-- A descriptor becomes current in LIST, or is barred and the channel stops (R108, R109); `k` is the record before. -/
theorem State.Works.becomeCurrent (h : State.Works i s t)
    (hfree : (t.ctl c).state ≠ .unconfigured ∧ (t.ctl c).state ≠ .tripped)
    (hk : (t.ctl c).Live → k.Idle) (hstate : k.state = .list) (j : Fin 256) :
    State.Works i s ((t.withCtl c k).becomeCurrent c j) := by
  cases hbar : (t.withCtl c k).barred c ((t.withCtl c k).desc j) with
  | none =>
    rw [State.becomeCurrent_of_free hbar, State.ctl_withCtl_same, State.withCtl_withCtl]
    exact h.live hawake hfree (fun hlive => (hk hlive).listed hstate j false none)
      (congrArg ChanState.forced hstate)
  | some cause =>
    rw [State.becomeCurrent_of_barred hbar, State.barredOn, State.withChan_ctl_notes, State.withCtl_withCtl]
    refine State.Works.notes _ (h.live hawake hfree (fun hlive => ?_) ?_)
    · exact Controller.Live.unevaluated (State.stoppedCtl_live (by simpa using (hk hlive).prove)
        (by simpa using (hk hlive).brake) (by simpa using (hk hlive).feedback))
    · rcases (t.withCtl c k).stoppedCtl_state c with hs | hs <;> exact congrArg ChanState.forced hs

theorem State.Works.endList (h : State.Works i s t)
    (hstate : (t.ctl c).state = .list ∨ (t.ctl c).state = .suspended) : State.Works i s (t.endList c) := by
  rw [State.endList_eq]
  refine (h.live hawake (by rcases hstate with hst | hst <;> simp [hst]) (fun hk => ?_) rfl).withCtlNote _
  exact (hk.idle (by rcases hstate with hst | hst <;> rw [hst] <;> rfl)).ended

/-- In LIST the next descriptor becomes current. -/
theorem State.Works.nextDescriptor (h : State.Works i s t) (hlist : (t.ctl c).state = .list) (j : Fin 256) :
    State.Works i s (t.becomeCurrent c j) := by
  have hnext := h.becomeCurrent hawake (k := t.ctl c) (by simp [hlist])
    (fun hk => hk.idle (by rw [hlist]; rfl)) hlist j
  rwa [State.withCtl_ctl] at hnext

/-- The current descriptor completes (R114). -/
theorem State.Works.complete (h : State.Works i s t) (hlist : (t.ctl c).state = .list) (j : Fin 256) :
    State.Works i s (t.complete c j) := by
  have hsucceed : ∀ u : State, State.Works i s u → (u.ctl c).state = .list →
      State.Works i s (match u.successor j with
        | some j' => u.becomeCurrent c j'
        | none => u.endList c) := fun u hu hl => by
    cases u.successor j with
    | some j' => exact hu.nextDescriptor hawake hl j'
    | none => exact hu.endList hawake (.inl hl)
  unfold State.complete
  split
  · exact hsucceed _ (h.raise c .moveDone) (by rw [State.ctl_raise]; exact hlist)
  · exact hsucceed _ h hlist

/-- Arrival begins the dwell or completes the descriptor (R112). -/
theorem State.Works.arrive (h : State.Works i s t) (hlist : (t.ctl c).state = .list) (j : Fin 256) :
    State.Works i s (t.arrive c j) := by
  by_cases hdwell : t.arrivalDwell c j = 0
  · rw [State.arrive_of_zero hdwell]
    exact h.complete hawake hlist j
  · rw [State.arrive_of_dwell hdwell]
    refine h.live hawake (by simp [hlist]) (fun hk => ?_) (congrArg ChanState.forced hlist)
    have hidle : (t.ctl c).Idle := hk.idle (by rw [hlist]; rfl)
    exact Controller.Idle.live ⟨hidle.slot, hidle.duration, hidle.demand, hidle.prove, hidle.brake, hidle.feedback,
      hidle.emission⟩ (hk.fits.current.2 (by rw [hlist]; rfl)) (congrArg ChanState.holdsDescriptor hlist)
      (fun _ => ⟨hlist, rfl⟩) nofun fun _ => congrArg ChanState.watched hlist

theorem State.Works.tryArrive (h : State.Works i s t) : State.Works i s (t.tryArrive c) := by
  by_cases hj : ∃ j, t.Arrives c j
  · obtain ⟨j, hj⟩ := hj
    exact hj.tryArrive_eq ▸ h.arrive hawake hj.inList j
  · rw [State.tryArrive_of_not fun j hj' => hj ⟨j, hj'⟩]
    exact h

/-- A successor that SKIP finds becomes current; without one the list ends and the channel stops (R118). -/
theorem State.Works.skip (h : State.Works i s t) (hlist : (t.ctl c).state = .list) (j : Fin 256) :
    State.Works i s (t.skip c j) := by
  unfold State.skip
  split
  · exact h.nextDescriptor hawake hlist _
  · exact (h.raise c .listEnd).stopToHeld hawake (by rw [State.ctl_raise, hlist]; rfl)

theorem State.Works.pairStop (h : State.Works i s t) : State.Works i s (t.pairStop c) := by
  unfold State.pairStop
  cases hstate : (t.ctl c).state with
  | trafficLive | trafficLapsed | list | injected | suspended => exact h.stopToHeld hawake (by rw [hstate]; rfl)
  | _ => exact h

theorem State.Works.actOnMatch (h : State.Works i s t) (hlist : (t.ctl c).state = .list) {j : Fin 256}
    (hj : (t.ctl c).current = some j) (a : MatchAction) : State.Works i s (t.actOnMatch c j a) := by
  cases a with
  | note => exact h
  | stopSelf => exact h.stopToSuspended hawake hlist hj
  | stopPair => exact (h.stopToSuspended hawake hlist hj).pairStop hawake
  | skip => exact h.skip hawake hlist j

theorem State.Works.offerLandmark (h : State.Works i s t) (n : Fin 64) (e : Int) :
    State.Works i s (t.offerLandmark c n e) := by
  by_cases hmatch : ∃ j a, t.Matches c n j a
  · obtain ⟨j, a, hmatch⟩ := hmatch
    rw [State.offerLandmark_of_match hmatch]
    have htold : State.Works i s (t.matchTold c n e) := h.notes _
    exact htold.actOnMatch hawake (by rw [State.matchTold_ctl]; exact hmatch.inList)
      (by rw [State.matchTold_ctl]; exact hmatch.current) a
  · rw [State.offerLandmark_of_not fun j a hm => hmatch ⟨j, a, hm⟩]
    exact h

/-! ## TRAFFIC, LIST and INJECTED are entered -/

omit hawake in
/-- The states from which they are entered run no injection, no prove and no brake confirm timer. -/
theorem Controller.Live.unbraked {k : Controller} (h : k.Live)
    (hstate : k.state = .trafficLive ∨ k.state.idle = true) :
    k.slot = none ∧ k.duration = none ∧ k.prove = none ∧ k.brake = none := by
  rcases hstate with hst | hidle
  · exact ⟨h.fits.slot_none (by simp [hst]), h.fits.duration_none (by simp [hst]), h.fits.prove_none (by simp [hst]),
      h.fits.brake_none (by rw [hst]; rfl)⟩
  · have hk := h.idle hidle
    exact ⟨hk.slot, hk.duration, hk.prove, hk.brake⟩

omit hawake in
theorem Controller.free_of_idle {st : ChanState} (hstate : st = .trafficLive ∨ st.idle = true) :
    st ≠ .unconfigured ∧ st ≠ .tripped := by
  rcases hstate with rfl | hidle
  · exact ⟨nofun, nofun⟩
  · constructor <;> rintro rfl <;> cases hidle

theorem State.Works.startList (h : State.Works i s t)
    (hstate : (t.ctl c).state = .trafficLive ∨ (t.ctl c).state.idle = true) (j : Fin 256) :
    State.Works i s (t.startList c j) := by
  rw [State.startList_eq]
  refine h.becomeCurrent hawake (Controller.free_of_idle hstate) (fun hk => ?_) rfl j
  obtain ⟨hslot, hduration, hprove, hbrake⟩ := hk.unbraked hstate
  exact ⟨hslot, hduration, rfl, hprove, hbrake, hk.feedback, t.emissionOn_isSome c⟩

theorem State.Works.continueList (h : State.Works i s t) (hstate : (t.ctl c).state = .suspended) :
    State.Works i s (t.continueList c) := by
  unfold State.continueList
  split
  · exact h.endList hawake (.inr hstate)
  · split
    · rw [State.enter_list_eq]
      refine h.becomeCurrent hawake (by simp [hstate]) (fun hk => ?_) rfl _
      have hidle : (t.ctl c).Idle := hk.idle (by rw [hstate]; rfl)
      exact ⟨hidle.slot, hidle.duration, hidle.demand, hidle.prove, hidle.brake, hidle.feedback, hidle.emission⟩
    · exact h.endList hawake (.inr hstate)

/-- TRAFFIC-LIVE runs the demand timer and no emission timer (R80, R81, R86, R88). -/
theorem State.Works.enterTraffic (h : State.Works i s t)
    (hstate : (t.ctl c).state = .held ∨ (t.ctl c).state = .trafficLapsed ∨ (t.ctl c).state = .trafficLive) :
    State.Works i s (t.withCtl c (t.liveCtl c)) := by
  have hunheld : (t.ctl c).state = .trafficLive ∨ (t.ctl c).state.idle = true := by
    rcases hstate with hst | hst | hst <;> simp [hst, ChanState.idle]
  refine h.live hawake (Controller.free_of_idle hunheld) (fun hk => ?_) rfl
  obtain ⟨hslot, hduration, hprove, hbrake⟩ := hk.unbraked hunheld
  have hholds : (t.ctl c).state.holdsDescriptor = false := by rcases hstate with hst | hst | hst <;> rw [hst] <;> rfl
  have hlist : (t.ctl c).state ≠ .list := by rcases hstate with hst | hst | hst <;> simp [hst]
  refine ⟨⟨?_, ?_, ?_, ?_, ?_, ?_, ?_, ?_, fun _ => rfl⟩, nofun, hk.feedback, ?_⟩
  · simp [State.liveCtl, hslot]
  · simp [State.liveCtl, hduration]
  · simp [State.liveCtl, hk.fits.current_none hholds, ChanState.holdsDescriptor]
  · simp [State.liveCtl]
  · simp [State.liveCtl, hprove]
  · simp [State.liveCtl, hbrake]
  · simp [State.liveCtl, hk.fits.dwell_none hlist]
  · simp [State.liveCtl, hk.fits.carried_none hholds]
  · simp [State.liveCtl]

theorem State.Works.startInjection (h : State.Works i s t)
    (hstate : (t.ctl c).state = .trafficLive ∨ (t.ctl c).state.idle = true) (saved : Saved) (power : Int)
    (duration : Nat) : State.Works i s (t.startInjection c saved power duration) := by
  rw [State.startInjection_eq]
  refine h.live hawake (Controller.free_of_idle hstate) (fun hk => ?_) rfl
  obtain ⟨-, -, hprove, hbrake⟩ := hk.unbraked hstate
  refine ⟨⟨?_, ?_, ?_, ?_, ?_, ?_, nofun, nofun, fun _ => rfl⟩, nofun, hk.feedback, ?_⟩
  · simp
  · simp
  · simp [Controller.unlisted, ChanState.holdsDescriptor]
  · simp
  · simp [Controller.unlisted, hprove]
  · simp [Controller.unlisted, hbrake]
  · simp [State.emissionOn]

theorem State.Works.replaceInjection (h : State.Works i s t) (hstate : (t.ctl c).state = .injected) (power : Int)
    (duration : Nat) : State.Works i s (t.replaceInjection c power duration) := by
  rw [State.replaceInjection_eq]
  refine h.live hawake (by simp [hstate]) (fun hk => ?_) (congrArg ChanState.forced hstate)
  exact ⟨⟨hk.fits.slot, iff_of_true rfl hstate, hk.fits.current, hk.fits.demand, hk.fits.prove, hk.fits.brake,
    hk.fits.dwell, hk.fits.carried, hk.fits.watch⟩, hk.configured, hk.feedback, hk.emission⟩

/-! ## An injection ends -/

/-- The end of an injection leaves a record free to stop, to take up its list, or to go back to TRAFFIC-LAPSED (R130
to R132). -/
theorem State.Works.endInjection (h : State.Works i s t) (hstate : (t.ctl c).state = .injected) :
    State.Works i s (t.endInjection c) := by
  unfold State.endInjection
  split
  · rename_i saved _
    rw [State.endedInjection_eq]
    generalize hk₁ : ({ t.ctl c with slot := none, duration := none } : Controller) = k₁
    have hidle : (t.ctl c).Live → k₁.Idle := fun hk => by
      subst hk₁
      exact ⟨rfl, rfl, hk.fits.demand_none (by simp [hstate]), hk.fits.prove_none (by simp [hstate]),
        hk.fits.brake_none (by rw [hstate]; rfl), hk.feedback, hk.emission.2 (by simp [hstate])⟩
    have hctl : ((t.withCtlNote c k₁ .responseDone).ctl c) = k₁ := State.ctl_withChan_same ..
    have hchan : ((t.withCtlNote c k₁ .responseDone).chan c).ctl = k₁ := hctl
    have hunlisted : (t.ctl c).Live → k₁.current = none ∧ k₁.dwell = none ∧ k₁.carried = none := fun hk => by
      subst hk₁
      exact ⟨hk.fits.current_none (by rw [hstate]; rfl), hk.fits.dwell_none (by simp [hstate]),
        hk.fits.carried_none (by rw [hstate]; rfl)⟩
    have hturn : ∀ k₂ : Controller, ((t.ctl c).Live → k₂.Live) → k₂.state.forced = false →
        State.Works i s ((t.withCtlNote c k₁ .responseDone).withCtl c k₂) := fun k₂ hlive hforced => by
      have hmoved := (h.live hawake (by simp [hstate]) hlive hforced).told
        ((t.chan c).notes.add ChanKind.responseDone.bit)
      simpa only [State.withCtl, State.withCtlNote, State.withChan_withChan, State.chan_withChan_same] using hmoved
    cases saved with
    | traffic =>
      simp only [State.returnTo, State.enter_eq, hchan]
      refine hturn _ (fun hk => ?_) rfl
      obtain ⟨hcurrent, hdwell, hcarried⟩ := hunlisted hk
      have hi := hidle hk
      exact Controller.Empty.live ⟨hi.slot, hi.duration, hcurrent, hi.demand, hi.prove, hdwell, hcarried,
        fun hb => by simp [hi.brake] at hb, fun _ => rfl, hi.feedback, hi.emission⟩ rfl
    | list j left =>
      simp only [State.returnTo, State.modCtl_eq, State.enter_eq, State.withChan_withChan, State.chan_withChan_same,
        hchan]
      refine hturn _ (fun hk => ?_) rfl
      have hi := hidle hk
      exact Controller.Idle.live ⟨hi.slot, hi.duration, hi.demand, hi.prove, hi.brake, hi.feedback, hi.emission⟩ rfl
        rfl nofun (fun _ => rfl) fun _ => rfl
    | held =>
      simp only [State.returnTo, State.stopToHeld_eq]
      refine hturn _ (fun hk => State.stoppedCtl_live (by rw [hctl]; exact (hidle hk).prove)
        (by rw [hctl]; exact (hidle hk).brake) (by rw [hctl]; exact (hidle hk).feedback)) ?_
      rcases (t.withCtlNote c k₁ .responseDone).stoppedCtl_state c with hs | hs <;> rw [hs] <;> rfl
    | suspended j left =>
      have hresumed : ∀ u : State, (u.modCtl c fun k => k.resume j left) = u.withCtl c ((u.ctl c).resume j left) :=
        fun _ => rfl
      simp only [State.returnTo, hresumed, hctl]
      rw [State.stopToSuspended_eq _ c (i := j) (by rw [State.ctl_withCtl_same]; rfl), State.withCtl_withCtl]
      refine hturn _ (fun hk => State.suspendedCtl_live ?_ _ _) ?_
      · have hi := hidle hk
        rw [State.ctl_withCtl_same]
        exact ⟨hi.slot, hi.duration, hi.demand, hi.prove, hi.brake, hi.feedback, hi.emission⟩
      · generalize hu : (t.withCtlNote c k₁ .responseDone).withCtl c (k₁.resume j left) = u
        rcases u.suspendedCtl_state c j (u.ctl c).carried with hs | hs <;> rw [hs] <;> rfl
  · exact h

end

end Sys2Proof.Machine
end


section
/-! Evaluations, teeth, landmarks, feedback and the expiries of the timers as changes of the part. -/

namespace Sys2Proof.Machine

/-! ## The evaluation's result -/

theorem State.evaluation_caps (s : State) (c : Chan) (src : Option Frame) :
    (s.evaluation c src).downCap ≤ 32767 ∧ (s.evaluation c src).upCap ≤ 32767 := by
  have hleast : ∀ l, leastOf l ≤ 32767 := fun l => (leastOf_spec l).2 _ List.mem_cons_self
  constructor
  · change s.newDownCap c ≤ 32767
    unfold State.newDownCap
    split
    · omega
    · exact hleast _
  · change s.newUpCap c ≤ 32767
    unfold State.newUpCap
    split
    · omega
    · exact hleast _

/-- The gate keeps a sound record after every evaluation (R54, R65, R66). -/
theorem State.evaluation_sound (s : State) (c : Chan) (src : Option Frame) (at_ : Option Nat) :
    (⟨(s.evaluation c src).output, at_, (s.evaluation c src).downCap, (s.evaluation c src).upCap⟩ : Gate).Sound := by
  obtain ⟨hdown, hup⟩ := s.evaluation_caps c src
  refine ⟨hdown, hup, ?_, ?_⟩ <;> rw [State.evaluation_output] <;> simp only [capTo, clampInt] <;> omega

theorem lowerBy_zero_natAbs_le (p : Int) (fall : Nat) : (lowerBy p 0 fall).natAbs ≤ p.natAbs := by
  rw [lowerBy_zero_floor]
  split_ifs <;> omega

/-- While the freeze is set the demand is 0, so the ramp brings the output toward 0 (R53, R64). -/
theorem State.evaluation_frozen {s : State} (hfreeze : s.freeze = true) (c : Chan) (src : Option Frame) :
    (s.evaluation c src).output.natAbs ≤ (s.gate c).out.natAbs := by
  rw [State.evaluation_output]
  refine (capTo_natAbs_le _ _ _).trans ?_
  have htarget : ∀ down up, capTo down up 0 = 0 := fun down up => by simp only [capTo, clampInt]; omega
  simp only [State.evaluation, State.demand, hfreeze, if_true, ite_self, htarget]
  split
  · simp
  · rw [ramp_of_opposite (.inl rfl)]
    exact lowerBy_zero_natAbs_le _ _

section
variable {i : Instr} {s t : State} {c : Chan}

theorem State.Works.raiseDetail (h : State.Works i s t) (c : Chan) (k : ChanKind) (f : Detail → Detail) :
    State.Works i s (t.raiseDetail c k f) :=
  h.notes _

theorem State.Works.modReckon (h : State.Works i s t) {g : Reckoning → Reckoning}
    (hg : (t.reckon c).Sound → (g (t.reckon c)).Sound) : State.Works i s (t.modReckon c g) :=
  h.reckon hg

variable (hawake : s.resetLine ≠ .fullReset)
include hawake

/-! ## Evaluations -/

omit hawake in
theorem State.evaluatedCtl_resembles (t : State) (c : Chan) (e : Evaluation) :
    (t.evaluatedCtl c e).Resembles (t.ctl c) where
  state := rfl
  listPhase := rfl
  slot := rfl
  duration := rfl
  current := rfl
  demand := rfl
  prove := rfl
  dwell := rfl
  carried := rfl
  feedback := rfl
  emission := rfl
  brake hb := by
    by_cases hramp : (t.ctl c).state = .parkingRamp ∧ (t.gate c).out ≠ 0 ∧ e.output = 0
    · exact .inr (by rw [hramp.1]; rfl)
    · exact .inl (by simpa only [State.evaluatedCtl, if_neg hramp] using hb)
  watch hw := by
    by_cases hwatched : (t.ctl c).state.watched = true ∧ (t.hoist c).crawl * 1000 ≤ e.output.natAbs
    · exact .inr hwatched.1
    · simp [State.evaluatedCtl, hwatched] at hw

theorem State.Works.listAfter (h : State.Works i s t) : State.Works i s (t.listAfter c) := by
  unfold State.listAfter
  split
  · have hmark : State.Works i s (t.modCtl c fun k => { k with evaluated := true }) :=
      h.resembling hawake ⟨rfl, rfl, rfl, rfl, rfl, rfl, rfl, rfl, rfl, rfl, rfl, .inl, .inl⟩
    exact hmark.tryArrive hawake
  · exact h

/-- One evaluation: the record stays in its state, the gate takes the result, the frame goes to port D, and the list
has its part (R50). No other evaluation of the channel came before in the command, and the freeze has not changed. -/
theorem State.Works.evaluate (h : State.Works i s t) (hout : (t.gate c).out = (s.gate c).out)
    (hfreeze : t.freeze = s.freeze) {src : Option Frame}
    (hsrc : (t.ctl c).state.forced = true → src = none) : State.Works i s (t.evaluate c src) := by
  have hgate : s.GateMove (t.withCtl c (t.evaluatedCtl c (t.evaluation c src))) c
      ⟨(t.evaluation c src).output, some t.now, (t.evaluation c src).downCap, (t.evaluation c src).upCap⟩ :=
    ⟨fun _ => t.evaluation_sound c src _, hout ▸ (t.evaluation_output_bounds c src).1,
      fun hf => hout ▸ State.evaluation_frozen (hfreeze.trans hf) c src⟩
  have hkept := ((h.resembling hawake (t.evaluatedCtl_resembles c (t.evaluation c src))).gate hgate).notes (c := c)
    (t.evaluatedNotes c src (t.evaluation c src))
  simp only [State.withCtl, State.withChan_withChan, State.chan_withChan_same] at hkept
  rw [State.evaluate_eq]
  refine State.Works.listAfter hawake (hkept.handDrive fun hforced => ?_)
  rw [State.ctl_withChan_same] at hforced
  rw [hsrc hforced, State.evaluation_of_forced hforced]
  rfl

/-- The emission timer, where it runs, starts again (R80). -/
theorem State.Works.restartEmission (h : State.Works i s t) (hruns : (t.ctl c).emission.isSome = true) :
    State.Works i s (t.restartEmission c) := by
  rw [State.restartEmission_eq]
  exact h.resembling hawake ⟨rfl, rfl, rfl, rfl, rfl, rfl, rfl, rfl, rfl, rfl, hruns.symm, .inl, .inl⟩

/-- The feedback timer of a channel with a hoist record starts again (R82). -/
theorem State.Works.restartFeedback (h : State.Works i s t) (hfilled : s.activeFilled = true) :
    State.Works i s (t.restartFeedback c) := by
  refine h.ctl (k := { t.ctl c with feedback := some (t.ms + (t.hoist c).demandTimeout) })
    ⟨h.awake hawake, fun hk => ?_, fun _ => id, .inl⟩
  rw [h.framed.activeFilled, hfilled, Controller.agrees_filled_iff] at hk ⊢
  exact ⟨⟨hk.fits.slot, hk.fits.duration, hk.fits.current, hk.fits.demand, hk.fits.prove, hk.fits.brake,
    hk.fits.dwell, hk.fits.carried, hk.fits.watch⟩, hk.configured, rfl, hk.emission⟩

/-- A dispatch frame brings the channel to TRAFFIC-LIVE and is evaluated there, or is consumed (R48, R81, R88). -/
theorem State.Works.deliverDrive (h : State.Works i s t) (hout : (t.gate c).out = (s.gate c).out)
    (hfreeze : t.freeze = s.freeze) (f : Frame) : State.Works i s (t.deliverDrive c f) := by
  by_cases htaken : f.payload.length = 5 ∧ (t.ctl c).state.isTraffic = true
  · have htraffic := (ChanState.isTraffic_iff _).1 htaken.2
    rw [State.deliverDrive_of_awaited htaken.1 htraffic]
    refine (h.enterTraffic hawake (.inr htraffic.symm)).evaluate hawake (by rw [State.gate_withCtl]; exact hout)
      hfreeze fun hforced => ?_
    rw [State.ctl_withCtl_same] at hforced
    cases hforced
  · have hsame : t.deliverDrive c f = t := if_neg htaken
    rw [hsame]; exact h

/-! ## Teeth and landmarks -/

omit hawake in
theorem limitDepth_le (d : Int) : limitDepth d ≤ 2000000000 := by
  rw [limitDepth_eq_ite]
  split_ifs <;> omega

omit hawake in
theorem State.toothInterval_bounds (t : State) (c : Chan) : 1 ≤ t.toothInterval c ∧ t.toothInterval c ≤ 10000000 := by
  unfold State.toothInterval
  split <;> simp only [Config.maxInterval] <;> omega

omit hawake in
/-- The history keeps the newest 8 (R32). -/
theorem enterInterval_bounds {l : List Nat} (hl : ∀ x ∈ l, 1 ≤ x ∧ x ≤ 10000000) {n : Nat}
    (hn : 1 ≤ n ∧ n ≤ 10000000) :
    (enterInterval l n).length ≤ 8 ∧ ∀ x ∈ enterInterval l n, 1 ≤ x ∧ x ≤ 10000000 := by
  simp only [enterInterval, Config.historyDepth]
  refine ⟨by rw [List.length_drop]; omega, fun x hx => ?_⟩
  rcases List.mem_append.1 (List.mem_of_mem_drop hx) with hx | hx
  · exact hl x hx
  · rw [List.mem_singleton.1 hx]; exact hn

omit hawake in
theorem State.Works.loseDepth (h : State.Works i s t) : State.Works i s (t.loseDepth c) :=
  (h.modReckon fun hr => ⟨hr.depth, hr.history, hr.intervals, hr.early, hr.load, Nat.zero_le _, by simp,
    fun _ => rfl⟩).raise c .depthLost

/-- A tooth applied with a history in its bounds (R30 to R32). -/
theorem State.Works.applyTooth (h : State.Works i s t) (dir : Direction) {l : List Nat}
    (hl : (t.reckon c).Sound → l.length ≤ 8 ∧ ∀ x ∈ l, 1 ≤ x ∧ x ≤ 10000000) :
    State.Works i s (t.applyTooth c dir l) := by
  have hmoved := h.modReckon (c := c) (g := fun r => { r with
      depth := limitDepth (t.toothTarget c dir), history := l, lastTooth := some t.now, lastDir := some dir,
      earlyCount := 0 })
    fun hr => ⟨limitDepth_le _, (hl hr).1, (hl hr).2, Nat.zero_le _, hr.load, hr.goodCount, hr.good, hr.untrusted⟩
  generalize hu : t.modReckon c _ = u at hmoved
  have hwatched : State.Works i s
      (u.modCtl c fun k => { k with watch := k.watch.map fun _ => ⟨u.now, (u.hoist c).toothHold⟩ }) :=
    hmoved.resembling hawake ⟨rfl, rfl, rfl, rfl, rfl, rfl, rfl, rfl, rfl, rfl, rfl, .inl,
      fun hw => .inl ((Option.isSome_map ..).symm.trans hw)⟩
  simp only [State.applyTooth, hu]
  split
  · exact hwatched.loseDepth
  · exact hwatched

theorem State.Works.earlyTooth (h : State.Works i s t) (dir : Direction) :
    State.Works i s (t.earlyTooth c dir) := by
  simp only [State.earlyTooth]
  split
  · refine State.Works.modReckon (h.raiseDetail c .toothEarly _) fun hr => ?_
    exact ⟨hr.depth, hr.history, hr.intervals, by simpa using by omega, hr.load, hr.goodCount, hr.good, hr.untrusted⟩
  · exact (State.Works.applyTooth hawake (h.raiseDetail c .toothEarly _) dir fun _ => by simp).loseDepth

theorem State.Works.tooth (h : State.Works i s t) (dir : Direction) : State.Works i s (t.tooth c dir) := by
  have hentered : ∀ l : List Nat, (∀ x ∈ l, 1 ≤ x ∧ x ≤ 10000000) →
      (enterInterval l (t.toothInterval c)).length ≤ 8
      ∧ ∀ x ∈ enterInterval l (t.toothInterval c), 1 ≤ x ∧ x ≤ 10000000 :=
    fun l hl => enterInterval_bounds hl (t.toothInterval_bounds c)
  simp only [State.tooth]
  split_ifs
  · exact h.applyTooth hawake dir fun _ => hentered [] (by simp)
  · exact h.earlyTooth hawake dir
  · exact h.applyTooth hawake dir fun hr => hentered _ hr.intervals

omit hawake in
theorem Reckoning.Sound.snap {r : Reckoning} (hr : r.Sound) (e : Int) : (r.snap e).Sound :=
  ⟨limitDepth_le _, hr.history, hr.intervals, hr.early, hr.load, hr.goodCount, hr.good, hr.untrusted⟩

omit hawake in
/-- The count that reaches 2 makes a DOUBTFUL depth GOOD (R37). -/
theorem Reckoning.Sound.countGood {r : Reckoning} (hr : r.Sound) (hknown : r.quality = .good ∨ r.quality = .doubtful) :
    r.countGood.Sound := by
  rw [Reckoning.countGood_eq hknown]
  refine ⟨hr.depth, hr.history, hr.intervals, hr.early, hr.load, Nat.min_le_left _ _, ?_, ?_⟩
  · by_cases hone : 1 ≤ r.goodCount
    · simp only [if_pos hone, true_iff]; omega
    · simp only [if_neg hone, hr.good]; omega
  · by_cases hone : 1 ≤ r.goodCount
    · simp [hone]
    · rcases hknown with hq | hq <;> simp [hone, hq]

omit hawake in
/-- The error's four outcomes keep the record in its ranges (R36 to R39). -/
theorem State.Works.takeError (h : State.Works i s t) (n : Fin 64) (e : Int) :
    State.Works i s (t.takeError c n e) := by
  have hdoubtful : State.Works i s
      (t.modReckon c fun r => { r.snap e with quality := .doubtful, goodCount := 0 }) :=
    h.modReckon fun hr => ⟨limitDepth_le _, hr.history, hr.intervals, hr.early, hr.load, Nat.zero_le _, by simp,
      fun _ => rfl⟩
  by_cases hknown : (t.reckon c).quality = .good ∨ (t.reckon c).quality = .doubtful
  · rw [State.takeError_of_known n e hknown]
    split_ifs
    · exact h.modReckon fun hr => (hr.snap e).countGood hknown
    · exact hdoubtful.raiseDetail c .landmarkError _
    · exact State.Works.loseDepth (h.raiseDetail c .landmarkError _)
  · rw [State.takeError_of_unknown n e (by cases hq : (t.reckon c).quality <;> simp_all)]
    exact hdoubtful

theorem State.Works.landmark (h : State.Works i s t) (n : Fin 64) (m : Landmark) (age : Nat) :
    State.Works i s (t.landmark c n m age) := by
  have hrecorded : State.Works i s ((t.takeError c n (t.landmarkError c m age)).modReckon c fun r =>
      { r with lastError := some ((t.landmarkError c m age).tdiv 1000), lastNumber := some n }) :=
    (h.takeError n _).modReckon fun hr => ⟨hr.depth, hr.history, hr.intervals, hr.early, hr.load, hr.goodCount,
      hr.good, hr.untrusted⟩
  exact hrecorded.offerLandmark hawake n _

theorem State.Works.readLandmark (h : State.Works i s t) (f : Frame) : State.Works i s (t.readLandmark f) := by
  unfold State.readLandmark
  split
  · exact h.landmark hawake _ _ _
  · unfold State.unknownLandmark
    dsimp only
    split <;> exact h.sup _

end

end Sys2Proof.Machine
end


section
/-! The commands that no request asks for, as changes of the part: the classifier's, the ports' and the timers'. -/

namespace Sys2Proof.Machine

theorem natAt_two_le (l : List Byte) (off : Nat) : natAt l off 2 ≤ 65535 := by
  have hlen : (bytesAt l off 2).length ≤ 2 := by rw [bytesAt, List.length_take]; omega
  have hlt := bytesNat_lt (bytesAt l off 2)
  have hpow : 256 ^ (bytesAt l off 2).length ≤ 256 ^ 2 := Nat.pow_le_pow_right (by omega) hlen
  rw [natAt]
  omega

theorem State.filled_of_driveAt {t : State} {a : Byte} {c : Chan} (h : t.driveAt a = some c) :
    t.activeFilled = true := by
  have hfound := List.find?_some h
  simp only [State.configured, Bool.and_eq_true] at hfound
  exact hfound.1

/-- The bytes so far and one more stay within the frame that the LEN byte announces (R156). -/
theorem receivingRoom_append {l : List Byte} {b : Byte}
    (hroom : l.length ≤ 4 ∨ ((byteAt l 4).toNat ≤ 48 ∧ l.length ≤ (byteAt l 4).toNat + 5))
    (hcheck : ¬ atCheck l = true) (hlen : l.length = 4 → b.toNat ≤ 48) :
    (l ++ [b]).length ≤ 4
    ∨ ((byteAt (l ++ [b]) 4).toNat ≤ 48 ∧ (l ++ [b]).length ≤ (byteAt (l ++ [b]) 4).toNat + 5) := by
  rw [atCheck_iff] at hcheck
  rw [List.length_append, List.length_singleton]
  rcases Nat.lt_trichotomy l.length 4 with hlt | heq | hgt
  · left; omega
  · right
    have hb : byteAt (l ++ [b]) 4 = b := by rw [byteAt, List.getD_append_right _ _ _ _ (by omega)]; simp [heq]
    rw [hb]
    exact ⟨hlen heq, by omega⟩
  · right
    rw [byteAt_append_left _ (by omega)]
    omega

section
variable {i : Instr} {s t : State} {c : Chan} {p : PortId}

/-! ## Reception -/

section
variable (hopen : t.portOpen p = true)
include hopen

/-- A change of an open port that enters nothing in its transmit queue. -/
theorem State.Works.openPort (h : State.Works i s t) {g : Port → Port}
    (hbounded : (t.port p).live = true → (t.port p).Bounded → (g (t.port p)).Bounded)
    (hsub : (g (t.port p)).tx.Sublist (t.port p).tx) : State.Works i s (t.modPort p g) := by
  obtain ⟨hlive, hline⟩ := (t.portOpen_iff p).1 hopen
  exact h.port (hbounded hlive) hsub fun hne => absurd hline hne

theorem State.Works.lineCheck (h : State.Works i s t) : State.Works i s (t.lineCheck p) :=
  (State.Works.openPort hopen h (g := fun q => { q with receiving := [], hunting := true })
    (fun _ hb => ⟨hb.rxRoom, hb.rxChecked, .inl (Nat.zero_le _), fun _ => rfl, fun hstuck =>
      ⟨(hb.stuckEmpty hstuck).1, (hb.stuckEmpty hstuck).2.1, rfl, (hb.stuckEmpty hstuck).2.2.2⟩⟩)
    (List.Sublist.refl _)).raisePort _ _

/-- The CHECK byte ends the frame in reception, which joins the receive queue where it has room (R157, R159). -/
theorem State.Works.finishFrame (h : State.Works i s t) (hcheck : atCheck (t.port p).receiving = true) (b : Byte) :
    State.Works i s (t.finishFrame p b) := by
  have hfull := (atCheck_iff _).1 hcheck
  have hemptied : State.Works i s (t.modPort p fun q => { q with receiving := [] }) :=
    State.Works.openPort hopen h (fun _ hb => ⟨hb.rxRoom, hb.rxChecked, .inl (Nat.zero_le _), fun _ => rfl,
      fun hstuck => ⟨(hb.stuckEmpty hstuck).1, (hb.stuckEmpty hstuck).2.1, rfl, (hb.stuckEmpty hstuck).2.2.2⟩⟩)
      (List.Sublist.refl _)
  simp only [State.finishFrame]
  split
  · rename_i hgood
    unfold State.offerRx
    rw [State.port_modPort_same]
    split
    · rename_i hroom
      rw [State.modPort_modPort]
      refine State.Works.openPort hopen h (fun hlive hb => ⟨?_, fun f hf => ?_, .inl (Nat.zero_le _), fun _ => rfl,
        fun hstuck => absurd (hlive.symm.trans hstuck) (by decide)⟩) (List.Sublist.refl _)
      · rw [List.length_append, List.length_singleton]
        exact hroom
      · rcases List.mem_append.1 hf with hf | hf
        · exact hb.rxChecked f hf
        · rw [List.mem_singleton.1 hf]
          refine ⟨?_, hgood⟩
          have hroom' := hb.receivingRoom
          rw [frameOf, List.length_drop]
          omega
    · exact hemptied.raisePort _ _
  · exact h.lineCheck hopen

/-- One byte on the line (R156). -/
theorem State.Works.receiveByte (h : State.Works i s t) (b : Byte) : State.Works i s (t.receiveByte p b) := by
  unfold State.receiveByte
  split_ifs with hhunting hcheck hlong
  · exact h
  · exact h.finishFrame hopen hcheck b
  · exact h.lineCheck hopen
  · refine State.Works.openPort hopen h (fun hlive hb => ⟨hb.rxRoom, hb.rxChecked, ?_,
      fun hhunts => absurd hhunts hhunting, fun hstuck => absurd (hlive.symm.trans hstuck) (by decide)⟩)
      (List.Sublist.refl _)
    refine receivingRoom_append hb.receivingRoom hcheck fun hfour => ?_
    rw [Bool.and_eq_true, atLen_iff, decide_eq_true_eq, not_and, Nat.not_lt] at hlong
    exact hlong hfour

end

theorem exec_frameByteReceived_works (dt : Nat) (p : PortId) (b : Byte) (s : State) :
    ∃ t, exec (.frameByteReceived dt p b) s = .next t ∧ State.Works (.frameByteReceived dt p b) (s.advance dt) t := by
  refine ⟨_, rfl, ?_⟩
  split
  · exact State.Works.refl.receiveByte ‹_› b
  · exact .refl

theorem exec_frameComplete_works (dt : Nat) (p : PortId) (b : Byte) (s : State) :
    ∃ t, exec (.frameComplete dt p b) s = .next t ∧ State.Works (.frameComplete dt p b) (s.advance dt) t := by
  refine ⟨_, rfl, ?_⟩
  split
  · rename_i h
    exact State.Works.refl.receiveByte (Bool.and_eq_true _ _ ▸ h).1 b
  · exact .refl

theorem exec_frameLenExceeded_works (dt : Nat) (p : PortId) (b : Byte) (s : State) :
    ∃ t, exec (.frameLenExceeded dt p b) s = .next t
      ∧ State.Works (.frameLenExceeded dt p b) (s.advance dt) t := by
  refine ⟨_, rfl, ?_⟩
  split
  · rename_i h
    rw [Bool.and_eq_true, Bool.and_eq_true] at h
    exact State.Works.refl.receiveByte h.1.1 b
  · exact .refl

theorem exec_framingError_works (dt : Nat) (p : PortId) (s : State) :
    ∃ t, exec (.framingError dt p) s = .next t ∧ State.Works (.framingError dt p) (s.advance dt) t := by
  refine ⟨_, rfl, ?_⟩
  split
  · rename_i hopen
    split
    · rename_i hnone
      exact State.Works.refl.openPort hopen (fun hlive hb => ⟨hb.rxRoom, hb.rxChecked, hb.receivingRoom,
        fun _ => hnone, fun hstuck => absurd (hlive.symm.trans hstuck) (by decide)⟩) (List.Sublist.refl _)
    · exact State.Works.refl.lineCheck hopen
  · exact .refl

theorem exec_frameCut_works (dt : Nat) (p : PortId) (idle : Nat) (s : State) :
    ∃ t, exec (.frameCut dt p idle) s = .next t ∧ State.Works (.frameCut dt p idle) (s.advance dt) t := by
  refine ⟨_, rfl, ?_⟩
  split
  · rename_i h
    refine State.Works.raisePort (State.Works.refl.openPort h.1 (fun hlive hb => ⟨hb.rxRoom, hb.rxChecked,
      .inl (Nat.zero_le _), fun _ => rfl, fun hstuck => absurd (hlive.symm.trans hstuck) (by decide)⟩)
      (List.Sublist.refl _)) _ _
  · exact .refl

theorem exec_huntIdleClear_works (dt : Nat) (p : PortId) (idle : Nat) (s : State) :
    ∃ t, exec (.huntIdleClear dt p idle) s = .next t ∧ State.Works (.huntIdleClear dt p idle) (s.advance dt) t := by
  refine ⟨_, rfl, ?_⟩
  split
  · rename_i h
    exact State.Works.refl.openPort h.1 (fun hlive hb => ⟨hb.rxRoom, hb.rxChecked, hb.receivingRoom, nofun,
      fun hstuck => absurd (hlive.symm.trans hstuck) (by decide)⟩) (List.Sublist.refl _)
  · exact .refl

/-! ## The stuck line and transmission -/

theorem exec_lineStuck_works (dt : Nat) (p : PortId) (held : Nat) (s : State) :
    ∃ t, exec (.lineStuck dt p held) s = .next t ∧ State.Works (.lineStuck dt p held) (s.advance dt) t := by
  refine ⟨_, rfl, ?_⟩
  split
  · rename_i h
    exact State.Works.raisePort (State.Works.refl.openPort h.1 (fun _ _ => ⟨Nat.zero_le _,
      fun _ hf => absurd hf List.not_mem_nil, .inl (Nat.zero_le _), fun _ => rfl, fun _ => ⟨rfl, rfl, rfl, rfl⟩⟩)
      (List.nil_sublist _)) _ _
  · exact .refl

theorem exec_lineFreed_works (dt : Nat) (p : PortId) (s : State) :
    ∃ t, exec (.lineFreed dt p) s = .next t ∧ State.Works (.lineFreed dt p) (s.advance dt) t := by
  refine ⟨_, rfl, ?_⟩
  split
  · exact State.Works.raisePort (State.Works.refl.port (fun hb => ⟨hb.rxRoom, hb.rxChecked, hb.receivingRoom,
      hb.huntingEmpty, fun hstuck => Bool.noConfusion hstuck⟩) (List.Sublist.refl _) fun _ => id) _ _
  · exact .refl

theorem exec_frameTransmitStart_works (dt : Nat) (p : PortId) (s : State) :
    ∃ t, exec (.frameTransmitStart dt p) s = .next t ∧ State.Works (.frameTransmitStart dt p) (s.advance dt) t := by
  refine ⟨_, rfl, ?_⟩
  split
  · rename_i e rest hopen _ htx
    refine State.Works.refl.openPort hopen (fun hlive hb => ⟨hb.rxRoom, hb.rxChecked, hb.receivingRoom,
      hb.huntingEmpty, fun hstuck => absurd (hlive.symm.trans hstuck) (by decide)⟩) ?_
    exact htx ▸ List.sublist_cons_self e rest
  · exact .refl

theorem exec_frameTransmitEnd_works (dt : Nat) (p : PortId) (s : State) :
    ∃ t, exec (.frameTransmitEnd dt p) s = .next t ∧ State.Works (.frameTransmitEnd dt p) (s.advance dt) t :=
  ⟨_, rfl, State.Works.refl.port (fun hb => ⟨hb.rxRoom, hb.rxChecked, hb.receivingRoom, hb.huntingEmpty,
    fun hstuck => ⟨(hb.stuckEmpty hstuck).1, (hb.stuckEmpty hstuck).2.1, (hb.stuckEmpty hstuck).2.2.1, rfl⟩⟩)
    (List.Sublist.refl _) fun _ => id⟩

end

end Sys2Proof.Machine
end


section
/-! The classifier, the tooth events and the expiries of the timers, each as a chain of changes. -/

namespace Sys2Proof.Machine

section
variable {i : Instr} {s t : State} {c : Chan} (hawake : s.resetLine ≠ .fullReset)
include hawake

/-! ## Feedback -/

theorem State.Works.confirmations (h : State.Works i s t) (r : Feedback) : State.Works i s (t.confirmations c r) := by
  unfold State.confirmations
  split
  · exact h.tryStop hawake
  · exact h.tryRampRest hawake
  · split
    · exact h.enterParked hawake ‹_›
    · exact h
  · split
    · exact h.enterReleased hawake ‹_›
    · exact h
  · exact h.tryArrive hawake
  · exact h

/-- A FEEDBACK frame of a channel with a hoist record is read, reported to the controller, and restarts the feedback
timer (R82, R83, R94). -/
theorem State.Works.takeFeedback (h : State.Works i s t) (hfilled : s.activeFilled = true) (payload : List Byte) :
    State.Works i s (t.takeFeedback c payload) := by
  have hrecorded : State.Works i s (t.modCtl c fun k => { k with record := some (readFeedback payload t.moment) }) :=
    h.resembling hawake ⟨rfl, rfl, rfl, rfl, rfl, rfl, rfl, rfl, rfl, rfl, rfl, .inl, .inl⟩
  have hloaded := hrecorded.modReckon (c := c) (g := fun q => { q with load := (readFeedback payload t.moment).load })
    fun hr => ⟨hr.depth, hr.history, hr.intervals, hr.early, natAt_two_le payload 2, hr.goodCount, hr.good,
      hr.untrusted⟩
  simp only [State.takeFeedback]
  refine State.Works.restartFeedback hawake ?_ hfilled
  split_ifs with hfault htakes
  · obtain ⟨hconfigured, htripped, -⟩ := (ChanState.takesDriveFault_iff _).1 htakes
    rw [State.raise_enterFault_eq]
    exact hloaded.faulted hawake ⟨hconfigured, htripped⟩ _
  · exact hloaded
  · exact hloaded.confirmations hawake _

/-! ## The demand and feedback timers -/

/-- TRAFFIC-LAPSED runs no demand timer, and its emission timer (R87). -/
theorem State.Works.expireDemand (h : State.Works i s t) (hstate : (t.ctl c).state = .trafficLive) :
    State.Works i s ((((t.modCtl c fun k => { k with demand := none }).restartEmission c).enter c
      .trafficLapsed).raise c .demandLost) := by
  rw [State.expireDemand_eq]
  refine (h.live hawake (by simp [hstate]) (fun hk => ?_) rfl).withCtlNote _
  have hholds : (t.ctl c).state.holdsDescriptor = false := by rw [hstate]; rfl
  have hbrake := hk.fits.brake_none (by rw [hstate]; rfl)
  exact Controller.Empty.live ⟨hk.fits.slot_none (by simp [hstate]), hk.fits.duration_none (by simp [hstate]),
    hk.fits.current_none hholds, rfl, hk.fits.prove_none (by simp [hstate]), hk.fits.dwell_none (by simp [hstate]),
    hk.fits.carried_none hholds, fun hb => by simp [hbrake] at hb, fun _ => rfl, hk.feedback, rfl⟩ rfl

/-- A feedback timer that runs starts again (R82). -/
theorem State.Works.expireFeedback (h : State.Works i s t) (hruns : (t.ctl c).feedback.isSome = true) :
    State.Works i s ((t.raise c .feedbackLost).restartFeedback c) := by
  rw [State.expireFeedback_eq]
  refine State.Works.withCtlNote (h.resembling hawake ?_) _
  exact ⟨rfl, rfl, rfl, rfl, rfl, rfl, rfl, rfl, rfl, hruns.symm, rfl, .inl, .inl⟩

/-! ## The classifier -/

omit hawake in
theorem State.Works.forwardUp (h : State.Works i s t) (f : Frame) : State.Works i s (t.forwardUp f) := by
  rw [State.forwardUp_eq]
  split
  · exact h
  · exact h.passUp f

theorem State.Works.disposeDownstream (h : State.Works i s t) (f : Frame) :
    State.Works i s (t.disposeDownstream f) := by
  unfold State.disposeDownstream
  split
  · exact h
  · split
    · split
      · rename_i d hdrive
        split
        · have hfilled := h.framed.activeFilled ▸ State.filled_of_driveAt hdrive
          exact (h.takeFeedback hawake hfilled f.payload).forwardUp _
        · exact (h.raisePort _ _).forwardUp f
      · exact h.forwardUp f
    · split
      · exact (h.readLandmark hawake f).forwardUp f
      · exact h.forwardUp f

omit hawake in
/-- A request joins the queue where it has room, or is answered QUEUE_FULL where port U has a slot (R173). -/
theorem State.Works.enqueueRequest (h : State.Works i s t) (f : Frame) : State.Works i s (t.enqueueRequest f) := by
  unfold State.enqueueRequest
  split_ifs with hroom hslot
  · exact h.request f hroom
  · exact h.sendReply _ hslot
  · exact h

theorem State.Works.disposeUpstream (h : State.Works i s t) (hgates : ∀ c, (t.gate c).out = (s.gate c).out)
    (hfreeze : t.freeze = s.freeze) (f : Frame) : State.Works i s (t.disposeUpstream f) := by
  unfold State.disposeUpstream
  split
  · exact h
  · split
    · split
      · exact h.enqueueRequest f
      · exact h
    · split
      · exact (h.enqueueRequest f).passDown f
      · split
        · split
          · exact h.deliverDrive hawake (hgates _) hfreeze f
          · exact h.passDown f
        · exact h.passDown f

end

/-- The classifier takes the oldest frame of a receive queue (R166, R167). -/
theorem State.Works.takeFrame {i : Instr} {s : State} (p : PortId) {f : Frame} {rest : List Frame}
    (hrx : (s.port p).rx = f :: rest) : State.Works i s (s.modPort p fun q => { q with rx := rest }) := by
  refine State.Works.refl.port (fun hb => ⟨?_, fun g hg => hb.rxChecked g (hrx ▸ List.mem_cons_of_mem _ hg),
    hb.receivingRoom, hb.huntingEmpty, fun hstuck => ?_⟩) (List.Sublist.refl _) fun _ hnone => ?_
  · have := hb.rxRoom
    rw [hrx, List.length_cons] at this
    exact Nat.le_of_succ_le this
  · exact absurd (hrx.symm.trans (hb.stuckEmpty hstuck).1) (List.cons_ne_nil _ _)
  · exact absurd (hrx.symm.trans hnone) (List.cons_ne_nil _ _)

theorem State.ne_fullReset_of_free {s : State} (h : s.heldInReset = false) : s.resetLine ≠ .fullReset := by
  intro heq
  simp [State.heldInReset, heq] at h

theorem exec_classifyUpstreamFrame_works (dt : Nat) (s : State) :
    ∃ t, exec (.classifyUpstreamFrame dt) s = .next t
      ∧ State.Works (.classifyUpstreamFrame dt) (s.advance dt) t := by
  refine ⟨_, rfl, ?_⟩
  split
  · rename_i f rest hfree hrx
    exact (State.Works.takeFrame .u hrx).disposeUpstream (State.ne_fullReset_of_free hfree) (fun _ => rfl) rfl f
  · exact .refl

theorem exec_classifyDownstreamFrame_works (dt : Nat) (s : State) :
    ∃ t, exec (.classifyDownstreamFrame dt) s = .next t
      ∧ State.Works (.classifyDownstreamFrame dt) (s.advance dt) t := by
  refine ⟨_, rfl, ?_⟩
  split
  · rename_i f rest hfree hrx
    exact (State.Works.takeFrame .d hrx).disposeDownstream (State.ne_fullReset_of_free hfree) f
  · exact .refl

/-! ## Teeth and timers -/

theorem State.awake_iff (s : State) : s.awake = true ↔ s.resetLine ≠ .fullReset := by
  simp [State.awake]

theorem State.isSome_of_due {s : State} {timer : Option Nat} (h : s.due timer = true) : timer.isSome = true := by
  cases timer with
  | some e => rfl
  | none => cases h

theorem ChanState.free_of_watched {st : ChanState} (h : st.watched = true) : st ≠ .unconfigured ∧ st ≠ .tripped := by
  constructor <;> rintro rfl <;> cases h

theorem ChanState.free_of_confirming {st : ChanState} (h : st.confirming = true) :
    st ≠ .unconfigured ∧ st ≠ .tripped := by
  constructor <;> rintro rfl <;> cases h

theorem exec_toothEvent_works (dt : Nat) (c : Chan) (high : Bool) (s : State) :
    ∃ t, exec (.toothEvent dt c high) s = .next t ∧ State.Works (.toothEvent dt c high) (s.advance dt) t := by
  refine ⟨_, rfl, ?_⟩
  split
  · rename_i h
    rw [Bool.and_eq_true, State.awake_iff] at h
    exact State.Works.refl.tooth h.1 _
  · exact .refl

theorem exec_emissionExpiry_works (dt : Nat) (c : Chan) (s : State) :
    ∃ t, exec (.emissionExpiry dt c) s = .next t ∧ State.Works (.emissionExpiry dt c) (s.advance dt) t := by
  refine ⟨_, rfl, ?_⟩
  split
  · rename_i h
    rw [Bool.and_eq_true, State.awake_iff] at h
    have hrestarted : State.Works (.emissionExpiry dt c) (s.advance dt) ((s.advance dt).restartEmission c) :=
      State.Works.refl.restartEmission h.1 (State.isSome_of_due h.2)
    exact hrestarted.evaluate h.1 (by rw [State.restartEmission_eq, State.gate_withCtl]) rfl fun _ => rfl
  · exact .refl

theorem exec_demandTimerExpiry_works (dt : Nat) (c : Chan) (s : State) :
    ∃ t, exec (.demandTimerExpiry dt c) s = .next t ∧ State.Works (.demandTimerExpiry dt c) (s.advance dt) t := by
  refine ⟨_, rfl, ?_⟩
  split
  · rename_i h
    simp only [Bool.and_eq_true, State.awake_iff, beq_iff_eq] at h
    obtain ⟨⟨hawake, -⟩, hstate⟩ := h
    exact State.Works.refl.expireDemand hawake hstate
  · exact .refl

theorem exec_feedbackTimerExpiry_works (dt : Nat) (c : Chan) (s : State) :
    ∃ t, exec (.feedbackTimerExpiry dt c) s = .next t ∧ State.Works (.feedbackTimerExpiry dt c) (s.advance dt) t := by
  refine ⟨_, rfl, ?_⟩
  split
  · rename_i h
    rw [Bool.and_eq_true, State.awake_iff] at h
    exact State.Works.refl.expireFeedback h.1 (State.isSome_of_due h.2)
  · exact .refl

theorem exec_stallWatchExpiry_works (dt : Nat) (c : Chan) (s : State) :
    ∃ t, exec (.stallWatchExpiry dt c) s = .next t ∧ State.Works (.stallWatchExpiry dt c) (s.advance dt) t := by
  refine ⟨_, rfl, ?_⟩
  split
  · rename_i h
    simp only [Bool.and_eq_true, State.awake_iff] at h
    obtain ⟨⟨hawake, -⟩, hwatched⟩ := h
    rw [State.raise_enterFault_eq]
    exact State.Works.refl.faulted hawake (ChanState.free_of_watched hwatched) _
  · exact .refl

theorem exec_brakeConfirmExpiry_works (dt : Nat) (c : Chan) (s : State) :
    ∃ t, exec (.brakeConfirmExpiry dt c) s = .next t ∧ State.Works (.brakeConfirmExpiry dt c) (s.advance dt) t := by
  refine ⟨_, rfl, ?_⟩
  split
  · rename_i h
    simp only [Bool.and_eq_true, State.awake_iff] at h
    obtain ⟨⟨hawake, -⟩, hconfirming⟩ := h
    rw [State.raise_enterFault_eq]
    exact State.Works.refl.faulted hawake (ChanState.free_of_confirming hconfirming) _
  · exact .refl

theorem exec_dwellExpiry_works (dt : Nat) (c : Chan) (s : State) :
    ∃ t, exec (.dwellExpiry dt c) s = .next t ∧ State.Works (.dwellExpiry dt c) (s.advance dt) t := by
  refine ⟨_, rfl, ?_⟩
  split
  · rename_i j h _
    simp only [Bool.and_eq_true, State.awake_iff, Controller.dwelling, beq_iff_eq] at h
    exact State.Works.refl.complete h.1.1 h.2.1 j
  · exact .refl

theorem exec_durationExpiry_works (dt : Nat) (c : Chan) (s : State) :
    ∃ t, exec (.durationExpiry dt c) s = .next t ∧ State.Works (.durationExpiry dt c) (s.advance dt) t := by
  refine ⟨_, rfl, ?_⟩
  split
  · rename_i h
    simp only [Bool.and_eq_true, State.awake_iff, beq_iff_eq] at h
    exact State.Works.refl.endInjection h.1.1 h.2
  · exact .refl

theorem exec_proveExpiry_works (dt : Nat) (c : Chan) (s : State) :
    ∃ t, exec (.proveExpiry dt c) s = .next t ∧ State.Works (.proveExpiry dt c) (s.advance dt) t := by
  refine ⟨_, rfl, ?_⟩
  split
  · rename_i h
    simp only [Bool.and_eq_true, State.awake_iff, beq_iff_eq] at h
    exact State.Works.refl.enterOpen h.1.1 (.inr h.2)
  · exact .refl

end Sys2Proof.Machine
end


section
/-! The rules of the requests as chains of changes, from a state in which the engine has taken the request. -/

namespace Sys2Proof.Machine

/-! ## Descriptors written -/

theorem length_of_decodeAll {α : Type} {dec : List Byte → Option α} {rs : List (List Byte)} {xs : List α}
    (h : decodeAll dec rs = some xs) : xs.length = rs.length := by
  induction rs generalizing xs with
  | nil => cases h; rfl
  | cons r rs ih =>
    simp only [decodeAll] at h
    split at h
    · rename_i x ys _ hys
      cases h
      rw [List.length_cons, List.length_cons, ih hys]
    · cases h

theorem chunks_length (size n : Nat) (l : List Byte) : (chunks size n l).length = n := by
  induction n generalizing l with
  | zero => rfl
  | succ n ih => rw [chunks, List.length_cons, ih]

/-- The descriptors written are none that a channel guards (R105). -/
theorem State.descsMove_writeRun {s : State} {first count : Nat} {ds : List Descriptor} (dt : Nat)
    (hwithin : first + count ≤ 256) (hlen : ds.length = count) (hfree : ¬ s.anyGuarded first count = true) :
    State.DescsMove (.listWrite dt) s (writeRun s.descs first ds) where
  byListWrite := ⟨dt, rfl⟩
  guarded j hj := by
    refine (getElem_writeRun s.descs first ds j.val j.isLt).1 ?_
    by_contra hin
    exact hfree ((s.anyGuarded_iff hwithin).2 ⟨j, by omega, by omega, hj⟩)

/-! ## The channels one after another -/

theorem State.Works.quiesceChannel {i : Instr} {s t : State} (hawake : s.resetLine ≠ .fullReset)
    (h : State.Works i s t) (c : Chan) : State.Works i s (t.quiesceChannel c) := by
  unfold State.quiesceChannel
  cases hstate : (t.ctl c).state with
  | list | injected | suspended => exact h.stopToHeld hawake (by rw [hstate]; rfl)
  | stopping d =>
    cases d with
    | held => exact h
    | suspended => exact h.redirectToHeld hawake hstate
  | _ => exact h

/-- The channels one after another. -/
theorem State.Works.foldl {i : Instr} {s : State} {g : State → Chan → State}
    (hg : ∀ t c, State.Works i s t → State.Works i s (g t c)) (l : List Chan) {t : State} (h : State.Works i s t) :
    State.Works i s (l.foldl g t) := by
  induction l generalizing t with
  | nil => exact h
  | cons c l ih => exact ih (hg t c h)

/-- A TRIPPED channel enters PARKING phase SET, or UNCONFIGURED without a hoist record (R149, R79). -/
theorem State.Works.clearTripChannel {i : Instr} {s t : State} (hawake : s.resetLine ≠ .fullReset)
    (hline : s.tripLine = false) (h : State.Works i s t) (c : Chan) : State.Works i s (t.clearTripChannel c) := by
  by_cases hstate : (t.ctl c).state = .tripped
  · have hline' : t.tripLine = true → False := fun htrip => by simp [h.framed.tripLine, hline] at htrip
    cases hfilled : t.activeFilled with
    | true =>
      have hclear : t.clearTripChannel c = t.enterParkingSet c := by
        have hconfigured : t.configured c = true := hfilled
        rw [State.clearTripChannel, if_pos hstate, if_pos hconfigured]
      rw [hclear, State.enterParkingSet_eq]
      refine State.Works.settingWith (h.ctl ⟨h.awake hawake, fun hk => ?_, fun htrip => (hline' htrip).elim, nofun⟩)
      rw [hfilled, Controller.agrees_filled_iff] at hk ⊢
      exact State.settingCtl_live (hk.empty (by rw [hstate]; rfl))
    | false =>
      have hclear : t.clearTripChannel c = (t.withCtl c { t.ctl c with
          state := .unconfigured, emission := none, feedback := none, watch := none }).forcing fun d => d == c := by
        have hconfigured : ¬ t.configured c = true := by rw [State.configured, hfilled]; decide
        rw [State.clearTripChannel, if_pos hstate, if_neg hconfigured, State.rewriteForced_eq, State.enter_eq,
          State.modCtl_eq, State.chan_withChan_same, State.withChan_withChan]
        rfl
      rw [hclear]
      refine State.Works.forcing (h.ctl ⟨h.awake hawake, fun hk => ?_, fun htrip => (hline' htrip).elim, fun _ =>
        .inl (by rw [hstate]; rfl)⟩) _
      have hf := hk.fits
      have hholds : (t.ctl c).state.holdsDescriptor = false := by rw [hstate]; rfl
      rw [hfilled]
      refine ⟨⟨?_, ?_, ?_, ?_, ?_, ?_, ?_, ?_, nofun⟩, fun _ => ⟨.inl rfl, rfl, rfl⟩, nofun, nofun⟩
      · simp [hf.slot_none (by simp [hstate])]
      · simp [hf.duration_none (by simp [hstate])]
      · simp [hf.current_none hholds, ChanState.holdsDescriptor]
      · simp [hf.demand_none (by simp [hstate])]
      · simp [hf.prove_none (by simp [hstate])]
      · simp [hf.brake_none (by rw [hstate]; rfl)]
      · simp [hf.dwell_none (by simp [hstate])]
      · simp [hf.carried_none hholds]
  · have hclear : t.clearTripChannel c = t := if_neg hstate
    rw [hclear]; exact h

/-- RESPOND records TRAFFIC, HELD, LIST and SUSPENDED alone (R125). -/
theorem State.unheld_of_saveOf {t : State} {c : Chan} {saved : Saved} (h : t.saveOf c = some saved) :
    (t.ctl c).state = .trafficLive ∨ (t.ctl c).state.idle = true := by
  unfold State.saveOf at h
  split at h <;> simp_all [ChanState.idle]

section
variable {i : Instr} {u : State} (f : Frame)

theorem works_listWriteRule (dt : Nat) : State.Works (.listWrite dt) u (listWriteRule u f).state := by
  simp only [listWriteRule]
  split
  · exact .refl
  · rename_i hwithin
    split
    · exact .refl
    · rename_i ds hds
      split
      · exact .refl
      · rename_i hfree
        have hfirst := (byteAt f.payload 1).isLt
        exact State.Works.refl.descs (State.descsMove_writeRun dt (by omega)
          ((length_of_decodeAll hds).trans (chunks_length ..)) hfree)

theorem works_listReadRule : State.Works i u (listReadRule u f).state := by
  simp only [listReadRule]
  split <;> exact .refl

theorem works_tableReadRule : State.Works i u (tableReadRule u f).state := by
  simp only [tableReadRule]
  split
  · split <;> exact .refl
  · exact .refl

theorem works_tableWriteRule : State.Works i u (tableWriteRule u f).state := by
  simp only [tableWriteRule]
  split
  · exact .refl
  · split
    · exact .refl
    · split
      · exact .refl
      · exact State.Works.refl.shadow _ _

theorem works_fetchRule : State.Works i u (fetchRule u f).state := by
  unfold fetchRule
  split
  · rename_i x _
    cases x with
    | supervisor => exact State.Works.refl.sup _
    | channel c => exact State.Works.refl.notes _
  · exact .refl

theorem works_setDepthRule : State.Works i u (setDepthRule u f).state := by
  unfold setDepthRule
  split
  · exact .refl
  · rename_i hrange
    split
    · exact .refl
    · refine State.Works.refl.modReckon (g := fun r => r.given (natAt f.payload 2 4)) fun hr => ?_
      have hdepth : natAt f.payload 2 4 * 1000 ≤ 2000000000 := by omega
      exact ⟨hdepth, hr.history, hr.intervals, Nat.zero_le _, hr.load, Nat.zero_le _, by simp [Reckoning.given],
        fun _ => rfl⟩

variable (hawake : u.resetLine ≠ .fullReset)
include hawake

/-! ## Lists, stops and traffic -/

theorem works_startListRule : State.Works i u (startListRule u f).state := by
  unfold startListRule
  split
  · split
    · exact .refl
    · split
      · rename_i hstart
        refine State.Works.refl.startList hawake ?_ _
        rcases (ChanState.admitsStart_iff _).1 hstart with hst | hst | hst | hst <;> simp [hst, ChanState.idle]
      · exact .refl
  · exact .refl

theorem works_continueRule : State.Works i u (continueRule u f).state := by
  unfold continueRule
  split
  · exact .refl
  · split
    · exact State.Works.refl.continueList hawake ‹_›
    · exact .refl

theorem works_stopRule : State.Works i u (stopRule u f).state := by
  change State.Works i u (u.stopChannel f.channel)
  unfold State.stopChannel
  cases hstate : (u.ctl f.channel).state with
  | trafficLive | trafficLapsed | list | injected | suspended =>
    exact State.Works.refl.stopToHeld hawake (by rw [hstate]; rfl)
  | stopping d =>
    cases d with
    | held => exact .refl
    | suspended => exact State.Works.refl.redirectToHeld hawake hstate
  | _ => exact .refl

theorem works_trafficRule : State.Works i u (trafficRule u f).state := by
  unfold trafficRule
  split
  · exact .refl
  · split
    · have hstarted : u.startTraffic f.channel = u.withCtl f.channel (u.liveCtl f.channel) := u.startTraffic_eq _
      change State.Works i u (u.startTraffic f.channel)
      rw [hstarted]
      exact State.Works.refl.enterTraffic hawake (.inl ‹_›)
    · exact .refl

/-! ## Injections -/

theorem works_respondRule : State.Works i u (respondRule u f).state := by
  unfold respondRule
  split
  · exact .refl
  · split
    · exact .refl
    · split
      · exact State.Works.refl.replaceInjection hawake ‹_› _ _
      · split
        · rename_i saved hsave
          exact State.Works.refl.startInjection hawake (State.unheld_of_saveOf hsave) saved _ _
        · exact .refl

/-! ## Parking and release -/

theorem works_parkRule : State.Works i u (parkRule u f).state := by
  unfold parkRule
  cases hstate : (u.ctl f.channel).state with
  | held | trafficLive | trafficLapsed | list | suspended | injected | stopping _ =>
    exact State.Works.refl.enterParkingRamp hawake (by simp [hstate])
  | releasingProve | releasingOpen => exact State.Works.refl.parkToSet hawake (by simp [hstate])
  | fault =>
    dsimp only
    split
    · exact State.Works.refl.parkToSet hawake (by simp [hstate])
    · exact .refl
  | parked | parkingRamp | parkingSet | unconfigured | tripped => exact .refl

theorem works_releaseRule : State.Works i u (releaseRule u f).state := by
  unfold releaseRule
  split
  · exact .refl
  · split
    · exact .refl
    · split
      · exact State.Works.refl.startRelease hawake ‹_›
      · exact .refl

/-! ## Freeze and trip -/

theorem works_quiesceRule : State.Works i u (quiesceRule u f).state := by
  unfold quiesceRule
  split
  · split
    · exact .refl
    · exact State.Works.refl.freeze true
  · split
    · exact (State.Works.refl.freeze true).foldl (fun t c h => h.quiesceChannel hawake c) allChans
    · exact .refl

theorem works_clearTripRule : State.Works i u (clearTripRule u f).state := by
  unfold clearTripRule
  split
  · exact .refl
  · rename_i hline
    exact State.Works.refl.foldl (fun t c h => h.clearTripChannel hawake (Bool.not_eq_true _ ▸ hline) c) allChans

end

end Sys2Proof.Machine
end


section
/-! Everything a command can do: a chain of changes; the taking of a request, which ends with its reply or begins an
activation; the end of an activation; the lines; the resets. Each invariant is then a case analysis of these. -/

namespace Sys2Proof.Machine

/-- What command `i` can make of `s`, the state when the command is taken. -/
inductive State.Event (i : Instr) (s : State) : State → Prop
  | works {t : State} : State.Works i s t → State.Event i s t
  /-- A request is taken and answered (R174, R175). -/
  | answered {g : Frame} {rest : List Frame} {t : State} (kind : TxKind) (f : Frame) (r : Result) (d : List Byte) :
      s.engineReady = true → s.requests = g :: rest → kind = .reply ∨ kind = .resetReply →
      State.Works i { s with requests := rest, reserved := true } t → State.Event i s (t.answerAs kind f r d)
  /-- An activation is in progress from its taking on (R177). -/
  | begun {g : Frame} {rest : List Frame} (a : Activation) : s.engineReady = true → s.requests = g :: rest →
      State.Event i s { s with requests := rest, reserved := true, activation := some a }
  /-- An activation ends without a copy (R14, R177). -/
  | ended (f : Frame) (r : Result) (d : List Byte) : s.activation ≠ none →
      State.Event i s (State.answer { s with activation := none } f r d)
  /-- An activation succeeds (R17 to R19). -/
  | activated (dt : Nat) (scope : Scope) (f : Frame) (d : List Byte) : s.activation ≠ none →
      s.scopeFailure scope = none →
      i = (match scope with | .all => .activateAllCompletion dt | .zones => .activateZonesCompletion dt) →
      State.Event i s ((State.activated { s with activation := none } scope).answer f .ok d)
  /-- TRIP_N is asserted outside a full reset (R147). -/
  | tripped : s.resetLine ≠ .fullReset → State.Event i s (State.trip { s with tripLine := true })
  /-- The level of TRIP_N alone (R148, R150). -/
  | level (b : Bool) (n : Source 12) : (b = true → s.resetLine = .fullReset) →
      State.Event i s { s with tripLine := b, supNotes := n }
  /-- RESET_N is asserted (R151). -/
  | held : s.resetLine = .negated → State.Event i s { s with
      resetLine := .asserted s.now, portU := s.portU.hold, portD := s.portD.hold, reserved := false,
      activation := none, resetPending := none }
  /-- A ring reset, by the line or by request (R151, R153). -/
  | ringReset : s.resetLine ≠ .fullReset ∨ s.resetPending ≠ none → State.Event i s s.ringReset
  /-- A full reset begins (R152). -/
  | fullBegun (t₀ : Nat) : s.resetLine = .asserted t₀ →
      State.Event i s { s.beginFullReset with resetLine := .fullReset }
  /-- A full reset completes (R152). -/
  | fullComplete (straps : BitVec 4) : s.resetLine = .fullReset → State.Event i s (s.completeFullReset straps)
  /-- A requested full reset begins and completes at once (R153). -/
  | fullNow (straps : BitVec 4) : s.resetPending ≠ none → State.Event i s (s.beginFullReset.completeFullReset straps)
  /-- Power-on reset (R154). -/
  | powerOn (dt : Nat) (straps : BitVec 4) : i = .powerOnReset dt straps →
      State.Event i s (s.poweredOn straps).sampleTrip

/-! ## Requests -/

section
variable {i : Instr} {s : State}

theorem State.Event.refl : State.Event i s s := .works .refl

theorem State.line_of_engineReady (h : s.engineReady = true) : s.resetLine = .negated := by
  simp only [State.engineReady, State.heldInReset, Bool.and_eq_true, Bool.not_eq_true', bne_eq_false_iff_eq] at h
  exact h.1.2

/-- A request whose rule is a chain of changes is answered after them. -/
theorem State.Event.of_serve {mine : Frame → Bool} {rule : State → Frame → Reaction}
    (hrule : ∀ u f, u.resetLine ≠ .fullReset → State.Works i u (rule u f).state) :
    State.Event i s (s.serve mine rule) := by
  rcases s.serve_cases mine rule with h | ⟨f, rest, hready, hqueue, -, ⟨r, h⟩ | ⟨-, h⟩⟩
  · rw [h]; exact .refl
  · exact h ▸ .answered .reply f r [] hready hqueue (.inl rfl) .refl
  · refine h ▸ .answered .reply f _ _ hready hqueue (.inl rfl) (hrule _ f ?_)
    have hline : s.resetLine = .negated := State.line_of_engineReady hready
    exact ne_of_eq_of_ne hline nofun

/-- A refusal is answered with nothing changed. -/
theorem State.Event.of_refusal {g : Frame} {rest : List Frame} (hready : s.engineReady = true)
    (hqueue : s.requests = g :: rest) (f : Frame) (r : Result) (d : List Byte) :
    State.Event i s (State.answer { s with requests := rest, reserved := true } f r d) :=
  .answered .reply f r d hready hqueue (.inl rfl) .refl

theorem State.Event.of_takeReset (mine : Frame → Bool) :
    State.Event i s (s.takeRequest mine State.takeReset) := by
  rcases s.takeRequest_cases mine State.takeReset with h | ⟨f, rest, hready, hqueue, -, h⟩
  · rw [h]; exact .refl
  · rw [h]
    have hline : s.resetLine = .negated := State.line_of_engineReady hready
    unfold State.takeReset
    split
    · exact .of_refusal hready hqueue f _ _
    · split
      · exact .answered .resetReply f .ok [] hready hqueue (.inr rfl) (.resetPending .ring .refl hline)
      · split
        · exact .answered .resetReply f .ok [] hready hqueue (.inr rfl) (.resetPending .full .refl hline)
        · exact .of_refusal hready hqueue f _ _

theorem State.Event.of_takeActivate (mine : Frame → Bool) :
    State.Event i s (s.takeRequest mine State.takeActivate) := by
  rcases s.takeRequest_cases mine State.takeActivate with h | ⟨f, rest, hready, hqueue, -, h⟩
  · rw [h]; exact .refl
  · rw [h]
    unfold State.takeActivate
    split
    · exact .of_refusal hready hqueue f _ _
    · dsimp only
      split
      · split
        · exact .begun _ hready hqueue
        · exact .of_refusal hready hqueue f _ _
      · split
        · exact .begun _ hready hqueue
        · exact .of_refusal hready hqueue f _ _

theorem State.Event.of_endActivation (dt : Nat) (scope : Scope)
    (hi : i = (match scope with | .all => .activateAllCompletion dt | .zones => .activateZonesCompletion dt)) :
    State.Event i s (s.endActivation scope) := by
  by_cases hnone : s.activation = none
  · have hsame : s.endActivation scope = s := by simp only [State.endActivation, hnone]
    exact hsame.symm ▸ .refl
  · rcases s.endActivation_cases scope with h | ⟨f, r, d, h⟩ | ⟨f, d, hpasses, h⟩
    · rw [h]; exact .refl
    · exact h ▸ .ended f r d hnone
    · exact h ▸ .activated dt scope f d hnone hpasses hi

end

/-! ## The lines and the resets -/

theorem exec_tripAssertion_event (dt : Nat) (s : State) :
    ∃ t, exec (.tripAssertion dt) s = .next t ∧ State.Event (.tripAssertion dt) (s.advance dt) t := by
  refine ⟨_, rfl, ?_⟩
  split
  · exact .refl
  · split
    · exact .tripped ((State.awake_iff _).1 ‹_›)
    · rename_i hasleep
      rw [State.awake_iff, not_not] at hasleep
      exact .level true _ fun _ => hasleep

theorem exec_tripNegation_event (dt : Nat) (s : State) :
    ∃ t, exec (.tripNegation dt) s = .next t ∧ State.Event (.tripNegation dt) (s.advance dt) t := by
  refine ⟨_, rfl, ?_⟩
  split
  · exact .refl
  · split <;> exact .level false _ nofun

theorem exec_resetNAssert_event (dt : Nat) (s : State) :
    ∃ t, exec (.resetNAssert dt) s = .next t ∧ State.Event (.resetNAssert dt) (s.advance dt) t := by
  refine ⟨_, rfl, ?_⟩
  split
  · exact .held ‹_›
  · exact .refl

theorem exec_ringReset_event (dt : Nat) (s : State) :
    ∃ t, exec (.ringReset dt) s = .next t ∧ State.Event (.ringReset dt) (s.advance dt) t := by
  refine ⟨_, rfl, ?_⟩
  split
  · rename_i t₀ hline
    split
    · exact .ringReset (.inl (ne_of_eq_of_ne hline nofun))
    · exact .refl
  · exact .refl

theorem exec_fullResetBegin_event (dt : Nat) (s : State) :
    ∃ t, exec (.fullResetBegin dt) s = .next t ∧ State.Event (.fullResetBegin dt) (s.advance dt) t := by
  refine ⟨_, rfl, ?_⟩
  split
  · rename_i t₀ hline
    split
    · exact .fullBegun t₀ hline
    · exact .refl
  · exact .refl

theorem exec_fullResetComplete_event (dt : Nat) (straps : BitVec 4) (s : State) :
    ∃ t, exec (.fullResetComplete dt straps) s = .next t
      ∧ State.Event (.fullResetComplete dt straps) (s.advance dt) t := by
  refine ⟨_, rfl, ?_⟩
  split
  · exact .fullComplete straps ‹_›
  · exact .refl

theorem exec_resetTakesPlace_event (dt : Nat) (straps : BitVec 4) (s : State) :
    ∃ t, exec (.resetTakesPlace dt straps) s = .next t
      ∧ State.Event (.resetTakesPlace dt straps) (s.advance dt) t := by
  refine ⟨_, rfl, ?_⟩
  split
  · rename_i hpending _
    exact .ringReset (.inr (ne_of_eq_of_ne hpending nofun))
  · rename_i hpending _
    exact .fullNow straps (ne_of_eq_of_ne hpending nofun)
  · exact .refl

/-! ## Every command -/

theorem State.Event.of_works {i : Instr} {s u : State}
    (h : ∃ t, exec i s = .next t ∧ State.Works i u t) : ∃ t, exec i s = .next t ∧ State.Event i u t :=
  h.imp fun _ ht => ⟨ht.1, .works ht.2⟩

/-- Every command answers a next state, and makes of the part one of the things above. -/
theorem exec_event (i : Instr) (s : State) :
    ∃ t, exec i s = .next t ∧ State.Event i (s.advance i.elapsed) t := by
  cases i with
  | status dt => exact ⟨_, rfl, .of_serve fun _ _ _ => .refl⟩
  | fetchNotices dt => exact ⟨_, rfl, .of_serve fun _ f _ => works_fetchRule f⟩
  | tableWrite dt => exact ⟨_, rfl, .of_serve fun _ f _ => works_tableWriteRule f⟩
  | tableRead dt => exact ⟨_, rfl, .of_serve fun _ f _ => works_tableReadRule f⟩
  | copyActive dt => exact ⟨_, rfl, .of_serve fun _ _ _ => .shadow _ _ .refl⟩
  | activateAll dt => exact ⟨_, rfl, .of_takeActivate _⟩
  | activateZones dt => exact ⟨_, rfl, .of_takeActivate _⟩
  | activateAllCompletion dt => exact ⟨_, rfl, .of_endActivation dt .all rfl⟩
  | activateZonesCompletion dt => exact ⟨_, rfl, .of_endActivation dt .zones rfl⟩
  | listWrite dt => exact ⟨_, rfl, .of_serve fun _ f _ => works_listWriteRule f dt⟩
  | listRead dt => exact ⟨_, rfl, .of_serve fun _ f _ => works_listReadRule f⟩
  | startList dt => exact ⟨_, rfl, .of_serve fun _ f h => works_startListRule f h⟩
  | continueList dt => exact ⟨_, rfl, .of_serve fun _ f h => works_continueRule f h⟩
  | stop dt => exact ⟨_, rfl, .of_serve fun _ f h => works_stopRule f h⟩
  | traffic dt => exact ⟨_, rfl, .of_serve fun _ f h => works_trafficRule f h⟩
  | respond dt => exact ⟨_, rfl, .of_serve fun _ f h => works_respondRule f h⟩
  | park dt => exact ⟨_, rfl, .of_serve fun _ f h => works_parkRule f h⟩
  | release dt => exact ⟨_, rfl, .of_serve fun _ f h => works_releaseRule f h⟩
  | setDepth dt => exact ⟨_, rfl, .of_serve fun _ f _ => works_setDepthRule f⟩
  | quiesceConditional dt => exact ⟨_, rfl, .of_serve fun _ f h => works_quiesceRule f h⟩
  | quiesceForced dt => exact ⟨_, rfl, .of_serve fun _ f h => works_quiesceRule f h⟩
  | thaw dt => exact ⟨_, rfl, .of_serve fun _ _ _ => .freeze false .refl⟩
  | clearTrip dt => exact ⟨_, rfl, .of_serve fun _ f h => works_clearTripRule f h⟩
  | resetRing dt => exact ⟨_, rfl, .of_takeReset _⟩
  | resetFull dt => exact ⟨_, rfl, .of_takeReset _⟩
  | resetTakesPlace dt straps => exact exec_resetTakesPlace_event dt straps s
  | unknownRequest dt => exact ⟨_, rfl, .of_serve fun _ _ _ => .refl⟩
  | classifyUpstreamFrame dt => exact State.Event.of_works (exec_classifyUpstreamFrame_works dt s)
  | classifyDownstreamFrame dt => exact State.Event.of_works (exec_classifyDownstreamFrame_works dt s)
  | toothEvent dt c high => exact State.Event.of_works (exec_toothEvent_works dt c high s)
  | emissionExpiry dt c => exact State.Event.of_works (exec_emissionExpiry_works dt c s)
  | demandTimerExpiry dt c => exact State.Event.of_works (exec_demandTimerExpiry_works dt c s)
  | feedbackTimerExpiry dt c => exact State.Event.of_works (exec_feedbackTimerExpiry_works dt c s)
  | stallWatchExpiry dt c => exact State.Event.of_works (exec_stallWatchExpiry_works dt c s)
  | dwellExpiry dt c => exact State.Event.of_works (exec_dwellExpiry_works dt c s)
  | durationExpiry dt c => exact State.Event.of_works (exec_durationExpiry_works dt c s)
  | proveExpiry dt c => exact State.Event.of_works (exec_proveExpiry_works dt c s)
  | brakeConfirmExpiry dt c => exact State.Event.of_works (exec_brakeConfirmExpiry_works dt c s)
  | tripAssertion dt => exact exec_tripAssertion_event dt s
  | tripNegation dt => exact exec_tripNegation_event dt s
  | resetNAssert dt => exact exec_resetNAssert_event dt s
  | ringReset dt => exact exec_ringReset_event dt s
  | fullResetBegin dt => exact exec_fullResetBegin_event dt s
  | fullResetComplete dt straps => exact exec_fullResetComplete_event dt straps s
  | powerOnReset dt straps => exact ⟨_, exec_powerOnReset dt straps s, .powerOn dt straps rfl⟩
  | frameComplete dt p check => exact State.Event.of_works (exec_frameComplete_works dt p check s)
  | frameLenExceeded dt p len => exact State.Event.of_works (exec_frameLenExceeded_works dt p len s)
  | framingError dt p => exact State.Event.of_works (exec_framingError_works dt p s)
  | frameCut dt p idle => exact State.Event.of_works (exec_frameCut_works dt p idle s)
  | huntIdleClear dt p idle => exact State.Event.of_works (exec_huntIdleClear_works dt p idle s)
  | lineStuck dt p held => exact State.Event.of_works (exec_lineStuck_works dt p held s)
  | lineFreed dt p => exact State.Event.of_works (exec_lineFreed_works dt p s)
  | frameTransmitStart dt p => exact State.Event.of_works (exec_frameTransmitStart_works dt p s)
  | frameTransmitEnd dt p => exact State.Event.of_works (exec_frameTransmitEnd_works dt p s)
  | frameByteReceived dt p b => exact State.Event.of_works (exec_frameByteReceived_works dt p b s)

end Sys2Proof.Machine
end


section
/-! What commands never do (sections 1.1, 3.4, 5.2, 7.3) and the invariants on the bank, the reckoning and the gates:
each is read off what an event can make of the part. -/

namespace Sys2Proof.Machine

/-! ## The explicit forms of the resets and the trip -/

theorem State.chan_mapChans (s : State) (g : Chan → Channel) (c : Chan) : (s.mapChans g).chan c = g c := by
  cases c <;> rfl

theorem State.chan_trippedAll (s : State) (c : Chan) :
    s.trippedAll.chan c = { s.chan c with ctl := s.trippedCtl c } :=
  State.chan_mapChans s (fun d => { s.chan d with ctl := s.trippedCtl d }) c

/-- The part when a full reset is over and TRIP_N not yet sampled (R152). -/
def State.released (s : State) (straps : BitVec 4) : State := (s.mapChans s.releasedChan).refreshed straps

theorem State.completeFullReset_sampled (s : State) (straps : BitVec 4) :
    s.completeFullReset straps = (s.released straps).sampleTrip := by
  rw [State.completeFullReset_eq, State.sampleTrip_eq]
  rfl

theorem State.chan_released (s : State) (straps : BitVec 4) (c : Chan) :
    (s.released straps).chan c = s.releasedChan c := State.chan_mapChans s _ c

theorem State.chan_beginFullReset (s : State) (c : Chan) : s.beginFullReset.chan c = s.resetChan c := by
  rw [State.beginFullReset_eq]
  exact State.chan_mapChans s _ c

/-- The sampling of TRIP_N leaves gate and reckoning as they are (R147). -/
theorem State.chan_sampleTrip (s : State) (c : Chan) :
    s.sampleTrip.gate c = s.gate c ∧ s.sampleTrip.reckon c = s.reckon c := by
  rw [State.sampleTrip_eq]
  split
  · simp only [State.gate_eq, State.reckon_eq, State.chan_trippedAll, and_self]
  · exact ⟨rfl, rfl⟩

/-- The reply changes port U and the reservation alone (R165, R175). -/
theorem State.answerAs_eq (t : State) (kind : TxKind) (f : Frame) (r : Result) (d : List Byte) :
    t.answerAs kind f r d = { t with
      reserved := false,
      portU := if t.portOpen .u then
          { t.portU with tx := t.portU.tx ++ [⟨kind, State.replyTo { t with reserved := false } f r d⟩] }
        else t.portU } := by
  unfold State.answerAs State.sendReply
  have hopen : State.portOpen { t with reserved := false } .u = t.portOpen .u := rfl
  rw [hopen]
  split <;> rfl

/-! ## The commands' queue and the clock -/

theorem State.Event.timed {i : Instr} {s t : State} (h : State.Event i s t) :
    t.pending = s.pending ∧ t.now = s.now ∧ t.serial = s.serial := by
  have hsampled (u : State) : u.sampleTrip.pending = u.pending ∧ u.sampleTrip.now = u.now
      ∧ u.sampleTrip.serial = u.serial := by
    rw [State.sampleTrip_eq]
    split <;> exact ⟨rfl, rfl, rfl⟩
  cases h with
  | works h => exact ⟨h.framed.pending, h.framed.now, h.framed.serial⟩
  | answered kind f r d _ _ _ h => rw [State.answerAs_eq]; exact ⟨h.framed.pending, h.framed.now, h.framed.serial⟩
  | begun => exact ⟨rfl, rfl, rfl⟩
  | ended => rw [State.answer, State.answerAs_eq]; exact ⟨rfl, rfl, rfl⟩
  | activated dt scope =>
    rw [State.answer, State.answerAs_eq]
    cases scope with
    | all => rw [State.activated_all_eq]; exact ⟨rfl, rfl, rfl⟩
    | zones => exact ⟨rfl, rfl, rfl⟩
  | tripped => rw [State.trip_eq]; exact ⟨rfl, rfl, rfl⟩
  | level => exact ⟨rfl, rfl, rfl⟩
  | held => exact ⟨rfl, rfl, rfl⟩
  | ringReset => exact ⟨rfl, rfl, rfl⟩
  | fullBegun => rw [State.beginFullReset_eq]; exact ⟨rfl, rfl, rfl⟩
  | fullComplete straps => rw [State.completeFullReset_sampled]; exact hsampled _
  | fullNow straps => rw [State.completeFullReset_sampled, State.beginFullReset_eq]; exact hsampled _
  | powerOn dt straps => exact hsampled _

/-- Settles O2: every command is one of the events, none of which touches the queue of commands or the clock. -/
theorem everyCommandCompletesAndKeepsTheQueue : Obligations.EveryCommandCompletesAndKeepsTheQueue := by
  intro c s
  obtain ⟨t, hexec, hevent⟩ := exec_event c s
  exact ⟨t, hexec, hevent.timed⟩

/-! ## The ACTIVE bank and descriptor memory -/

/-- The ACTIVE bank changes where an activation succeeds and at power-on alone (R1, R17, R19). -/
theorem State.Event.bank {i : Instr} {s t : State} (h : State.Event i s t) :
    (t.active = s.active ∧ t.activeFilled = s.activeFilled)
    ∨ (∃ dt, i = .activateAllCompletion dt ∧ t.activeFilled = true)
    ∨ (∃ dt, i = .activateZonesCompletion dt ∧ s.scopeFailure .zones = none ∧ t.activeFilled = s.activeFilled)
    ∨ (∃ dt straps, i = .powerOnReset dt straps ∧ t.active = .empty) := by
  have hsampled (u : State) : u.sampleTrip.active = u.active ∧ u.sampleTrip.activeFilled = u.activeFilled := by
    rw [State.sampleTrip_eq]
    split <;> exact ⟨rfl, rfl⟩
  cases h with
  | works h => exact .inl ⟨h.framed.active, h.framed.activeFilled⟩
  | answered kind f r d _ _ _ h => rw [State.answerAs_eq]; exact .inl ⟨h.framed.active, h.framed.activeFilled⟩
  | begun => exact .inl ⟨rfl, rfl⟩
  | ended => rw [State.answer, State.answerAs_eq]; exact .inl ⟨rfl, rfl⟩
  | activated dt scope f d _ hpasses hi =>
    rw [State.answer, State.answerAs_eq]
    cases scope with
    | all => rw [State.activated_all_eq]; exact .inr (.inl ⟨dt, hi, rfl⟩)
    | zones => exact .inr (.inr (.inl ⟨dt, hi, hpasses, rfl⟩))
  | tripped => rw [State.trip_eq]; exact .inl ⟨rfl, rfl⟩
  | level => exact .inl ⟨rfl, rfl⟩
  | held => exact .inl ⟨rfl, rfl⟩
  | ringReset => exact .inl ⟨rfl, rfl⟩
  | fullBegun => rw [State.beginFullReset_eq]; exact .inl ⟨rfl, rfl⟩
  | fullComplete straps => rw [State.completeFullReset_sampled]; exact .inl (hsampled _)
  | fullNow straps => rw [State.completeFullReset_sampled, State.beginFullReset_eq]; exact .inl (hsampled _)
  | powerOn dt straps hi => exact .inr (.inr (.inr ⟨dt, straps, hi, (hsampled _).1⟩))

theorem State.Works.descs_same {i : Instr} {s t : State} (h : State.Works i s t) {j : Fin 256}
    (hj : s.guarded j = true ∨ ∀ dt, i ≠ .listWrite dt) : t.descs[j] = s.descs[j] := by
  induction h with
  | refl => rfl
  | descs _ hmove _ =>
    rcases hj with hguarded | hother
    · exact hmove.guarded j hguarded
    · obtain ⟨dt, hi⟩ := hmove.byListWrite
      exact absurd hi (hother dt)
  | _ => rename_i ih; exact ih

/-- Descriptor memory changes by LIST_WRITE and at power-on alone (R103 to R105). -/
theorem State.Event.descs {i : Instr} {s t : State} (h : State.Event i s t)
    (hi : ∀ dt straps, i ≠ .powerOnReset dt straps) {j : Fin 256}
    (hj : s.guarded j = true ∨ ∀ dt, i ≠ .listWrite dt) : t.descs[j] = s.descs[j] := by
  have hsampled (u : State) : u.sampleTrip.descs = u.descs := by
    rw [State.sampleTrip_eq]
    split <;> rfl
  cases h with
  | works h => exact h.descs_same hj
  | answered kind f r d _ _ _ h => rw [State.answerAs_eq]; exact h.descs_same hj
  | begun => rfl
  | ended => rw [State.answer, State.answerAs_eq]
  | activated dt scope =>
    rw [State.answer, State.answerAs_eq]
    cases scope with
    | all => rw [State.activated_all_eq]; rfl
    | zones => rfl
  | tripped => rw [State.trip_eq]; rfl
  | level => rfl
  | held => rfl
  | ringReset => rfl
  | fullBegun => rw [State.beginFullReset_eq]; rfl
  | fullComplete straps => rw [State.completeFullReset_sampled, hsampled]; rfl
  | fullNow straps => rw [State.completeFullReset_sampled, hsampled, State.beginFullReset_eq]; rfl
  | powerOn dt straps heq => exact absurd heq (hi dt straps)

/-- Settles O15: the events that change the bank and the descriptors are those named. -/
theorem tablesAndListsChangeOnlyByTheirCommands : Obligations.TablesAndListsChangeOnlyByTheirCommands := by
  intro c s t hexec hpower
  obtain ⟨t', hexec', hevent⟩ := exec_event c s
  cases hexec.symm.trans hexec'
  refine ⟨fun hall hzones => ?_, fun j hj => hevent.descs hpower hj⟩
  rcases hevent.bank with hsame | ⟨dt, hi, -⟩ | ⟨dt, hi, -⟩ | ⟨dt, straps, hi, -⟩
  · exact hsame
  · exact absurd hi (hall dt)
  · exact absurd hi (hzones dt)
  · exact absurd hi (hpower dt straps)

/-- With an empty ACTIVE bank the floor lies at 0, above which no zone table ends: check 6 fails (R16, R19). -/
theorem zoneFailure_at_top (count : Nat) (zs : List Zone) : zoneFailure count zs 0 ≠ none := by
  unfold zoneFailure
  split
  · nofun
  · split
    · nofun
    · split
      · nofun
      · simp

/-- An invariant that advancing the clock and taking a command from the queue do not touch holds after a step where it
holds after every event. -/
theorem step_preserves {P : State → Prop} (hadvance : ∀ s dt rest, P s → P ({ s with pending := rest }.advance dt))
    (hevent : ∀ i s t, P s → State.Event i s t → P t) {s t : State} (hs : P s) (h : step s = .next t) : P t := by
  rcases step_cases h with rfl | ⟨c, rest, -, hexec⟩
  · exact hs
  · obtain ⟨t', hexec', ht'⟩ := exec_event c { s with pending := rest }
    cases hexec.symm.trans hexec'
    exact hevent c _ _ (hadvance s c.elapsed rest hs) ht'

/-- Settles O14: an ACTIVATE ZONES on the empty bank fails, and an ACTIVATE ALL leaves the bank filled. -/
theorem stepKeepsAnUnfilledBankEmpty : Obligations.StepKeepsAnUnfilledBankEmpty := by
  intro s t hs hstep
  refine step_preserves (P := State.UnfilledIsEmpty) (fun _ _ _ h => h) (fun i u v hu hevent hunfilled => ?_) hs hstep
  rcases hevent.bank with ⟨hactive, hfilled⟩ | ⟨dt, -, hfilled⟩ | ⟨dt, -, hpasses, hfilled⟩ | ⟨dt, straps, -, hempty⟩
  · exact hactive.trans (hu (hfilled ▸ hunfilled))
  · rw [hfilled] at hunfilled; cases hunfilled
  · rw [State.scopeFailure, hu (hfilled ▸ hunfilled)] at hpasses
    exact absurd hpasses (zoneFailure_at_top _ _)
  · exact hempty

end Sys2Proof.Machine
end


section
/-! The invariants on reckoning and gates, and the two rules on outputs (sections 2.1 to 2.5, 3.3, 3.4, 7.3). -/

namespace Sys2Proof.Machine

theorem State.ctl_withChan (s : State) (c d : Chan) (x : Channel) :
    (s.withChan c x).ctl d = if d = c then x.ctl else s.ctl d := by
  split
  · subst d; exact s.ctl_withChan_same c x
  · rw [State.ctl_eq, s.chan_withChan_ne x ‹_›]; rfl

theorem State.gate_withChan (s : State) (c d : Chan) (x : Channel) :
    (s.withChan c x).gate d = if d = c then x.gate else s.gate d := by
  split
  · subst d; exact s.gate_withChan_same c x
  · rw [State.gate_eq, s.chan_withChan_ne x ‹_›]; rfl

theorem State.reckon_withChan (s : State) (c d : Chan) (x : Channel) :
    (s.withChan c x).reckon d = if d = c then x.reckon else s.reckon d := by
  split
  · subst d; exact s.reckon_withChan_same c x
  · rw [State.reckon_eq, s.chan_withChan_ne x ‹_›]; rfl

theorem State.gate_congr {s t : State} (h : t.chans = s.chans) (c : Chan) : t.gate c = s.gate c :=
  congrArg (fun q : Quad Channel => (q.get c).gate) h

theorem State.reckon_congr {s t : State} (h : t.chans = s.chans) (c : Chan) : t.reckon c = s.reckon c :=
  congrArg (fun q : Quad Channel => (q.get c).reckon) h

/-- The part with SHADOW taken over as ACTIVE, the channels not yet configured (R17). -/
def State.takenOver (s : State) : State := { s with active := s.shadow, activeFilled := true, shadowDiffers := false }

theorem State.chan_activated_all (s : State) (c : Chan) :
    (s.activated .all).chan c = { s.chan c with
      reckon := (s.reckon c).demoted, ctl := s.takenOver.configuredCtl s.activeFilled c } := by
  rw [State.activated_all_eq]
  exact State.chan_mapChans s.takenOver (fun d => { s.takenOver.chan d with
    reckon := (s.takenOver.reckon d).demoted, ctl := s.takenOver.configuredCtl s.activeFilled d }) c

theorem State.gate_activated_all (s : State) (c : Chan) : (s.activated .all).gate c = s.gate c := by
  rw [State.gate_eq, State.chan_activated_all]; rfl

theorem State.reckon_activated_all (s : State) (c : Chan) : (s.activated .all).reckon c = (s.reckon c).demoted := by
  rw [State.reckon_eq, State.chan_activated_all]

theorem State.gate_trippedAll (s : State) (c : Chan) : s.trippedAll.gate c = s.gate c := by
  rw [State.gate_eq, State.chan_trippedAll]; rfl

theorem State.reckon_trippedAll (s : State) (c : Chan) : s.trippedAll.reckon c = s.reckon c := by
  rw [State.reckon_eq, State.chan_trippedAll]; rfl

theorem State.chans_answer (t : State) (f : Frame) (r : Result) (d : List Byte) : (t.answer f r d).chans = t.chans := by
  rw [State.answer, State.answerAs_eq]

/-! ## Chains of changes -/

theorem State.Works.reckoningSound {i : Instr} {s t : State} (h : State.Works i s t) (hs : s.ReckoningSound) :
    t.ReckoningSound := by
  induction h with
  | refl => exact hs
  | reckon _ hr ih =>
    intro d
    rw [State.reckon_withChan]
    split
    · exact hr (ih _)
    · exact ih d
  | ctl _ _ ih | gate _ _ ih | notes _ _ ih =>
    intro d
    simp only [State.withCtl, State.reckon_withChan]
    split
    · exact ih _
    · exact ih d
  | _ => rename_i ih; exact ih

theorem State.Works.gatesSound {i : Instr} {s t : State} (h : State.Works i s t) (hs : s.GatesSound) :
    t.GatesSound := by
  induction h with
  | refl => exact hs
  | gate _ hmove ih =>
    intro d
    rw [State.gate_withChan]
    split
    · exact hmove.sound (ih _)
    · exact ih d
  | ctl _ _ ih | reckon _ _ ih | notes _ _ ih =>
    intro d
    simp only [State.withCtl, State.gate_withChan]
    split
    · exact ih _
    · exact ih d
  | _ => rename_i ih; exact ih

/-- No output crosses 0 from where it was before the command, and none grows in a freeze (R53, R64). -/
theorem State.Works.outputs {i : Instr} {s t : State} (h : State.Works i s t) (c : Chan) :
    0 ≤ (s.gate c).out * (t.gate c).out ∧ (s.freeze = true → (t.gate c).out.natAbs ≤ (s.gate c).out.natAbs) := by
  induction h with
  | refl => exact ⟨mul_self_nonneg _, fun _ => le_rfl⟩
  | gate _ hmove ih =>
    rw [State.gate_withChan]
    split
    · subst c; exact ⟨hmove.side, hmove.frozen⟩
    · exact ih
  | ctl _ _ ih | reckon _ _ ih | notes _ _ ih =>
    simp only [State.withCtl, State.gate_withChan]
    split
    · subst c; exact ih
    · exact ih
  | _ => rename_i ih; exact ih

/-! ## Every event -/

theorem Reckoning.Sound.demoted {r : Reckoning} (h : r.Sound) : r.demoted.Sound := by
  refine ⟨h.depth, Nat.zero_le _, fun _ hx => absurd hx List.not_mem_nil, Nat.zero_le _, h.load, Nat.zero_le _, ?_,
    fun _ => rfl⟩
  by_cases hgood : r.quality = .good <;> simp [Reckoning.demoted, hgood]

theorem Reckoning.Sound.fullReset {r : Reckoning} (h : r.Sound) : r.fullReset.Sound := by
  refine ⟨h.depth, Nat.zero_le _, fun _ hx => absurd hx List.not_mem_nil, Nat.zero_le _, Nat.zero_le _, Nat.zero_le _,
    ?_, fun _ => rfl⟩
  by_cases hnone : r.quality = .unreferenced <;> simp [Reckoning.fullReset, Reckoning.initial, hnone]

theorem Reckoning.initial_sound : Reckoning.initial.Sound := by
  constructor <;> decide

theorem Gate.initial_sound : Gate.initial.Sound := by
  constructor <;> decide

/-- An event changes reckoning and gates by a chain of changes, or leaves every gate as it is or at its initial values,
and the reckoning in its ranges. -/
theorem State.Event.channels {i : Instr} {s t : State} (h : State.Event i s t) :
    (∃ u v, State.Works i u v ∧ u.chans = s.chans ∧ u.freeze = s.freeze ∧ t.chans = v.chans)
    ∨ ∀ c, (t.gate c = s.gate c ∨ t.gate c = .initial) ∧ ((s.reckon c).Sound → (t.reckon c).Sound) := by
  have hsame {u : State} (hu : u.chans = s.chans) :
      ∀ c, (u.gate c = s.gate c ∨ u.gate c = .initial) ∧ ((s.reckon c).Sound → (u.reckon c).Sound) := fun c =>
    ⟨.inl (State.gate_congr hu c), fun hr => State.reckon_congr hu c ▸ hr⟩
  have hbegun (c : Chan) : s.beginFullReset.gate c = .initial
      ∧ ((s.reckon c).Sound → (s.beginFullReset.reckon c).Sound) := by
    simp only [State.gate_eq, State.reckon_eq, State.chan_beginFullReset]
    exact ⟨rfl, Reckoning.Sound.fullReset⟩
  have hreleased (u : State) (straps : BitVec 4) (c : Chan) : (u.completeFullReset straps).gate c = u.gate c
      ∧ (u.completeFullReset straps).reckon c = u.reckon c := by
    rw [State.completeFullReset_sampled]
    obtain ⟨hgate, hreckon⟩ := (u.released straps).chan_sampleTrip c
    rw [hgate, hreckon, State.gate_eq, State.reckon_eq, State.chan_released]
    exact ⟨rfl, rfl⟩
  cases h with
  | works h => exact .inl ⟨s, t, h, rfl, rfl, rfl⟩
  | answered kind f r d _ _ _ h => exact .inl ⟨_, _, h, rfl, rfl, by rw [State.answerAs_eq]⟩
  | begun => exact .inr (hsame rfl)
  | ended => exact .inr (hsame (by rw [State.answer, State.answerAs_eq]))
  | activated dt scope f d =>
    right
    cases scope with
    | all =>
      intro c
      have hchans := State.chans_answer (State.activated { s with activation := none } .all) f .ok d
      rw [State.gate_congr hchans, State.reckon_congr hchans, State.gate_activated_all, State.reckon_activated_all]
      exact ⟨.inl rfl, Reckoning.Sound.demoted⟩
    | zones => exact hsame (by rw [State.answer, State.answerAs_eq]; rfl)
  | tripped =>
    right
    intro c
    rw [State.trip_eq, State.gate_trippedAll, State.reckon_trippedAll]
    exact ⟨.inl rfl, id⟩
  | level => exact .inr (hsame rfl)
  | held => exact .inr (hsame rfl)
  | ringReset => exact .inr (hsame rfl)
  | fullBegun => exact .inr fun c => ⟨.inr (hbegun c).1, (hbegun c).2⟩
  | fullComplete straps =>
    exact .inr fun c => ⟨.inl (hreleased s straps c).1, fun hr => (hreleased s straps c).2 ▸ hr⟩
  | fullNow straps =>
    refine .inr fun c => ?_
    rw [(hreleased _ straps c).1, (hreleased _ straps c).2]
    exact ⟨.inr (hbegun c).1, (hbegun c).2⟩
  | powerOn dt straps =>
    refine .inr fun c => ?_
    obtain ⟨hgate, hreckon⟩ := (s.poweredOn straps).chan_sampleTrip c
    rw [hgate, hreckon]
    have hchan : (s.poweredOn straps).chan c = .powerOn s.moment := Quad.get_fill _ c
    rw [State.gate_eq (s.poweredOn straps), State.reckon_eq (s.poweredOn straps), hchan]
    exact ⟨.inr rfl, fun _ => Reckoning.initial_sound⟩

/-- Settles O9: a chain of changes keeps each record sound, and so do an ACTIVATE ALL and the resets. -/
theorem stepKeepsTheReckoningSound : Obligations.StepKeepsTheReckoningSound := by
  intro s t hs hstep
  refine step_preserves (P := State.ReckoningSound) (fun _ _ _ h => h) (fun i u v hu hevent => ?_) hs hstep
  rcases hevent.channels with ⟨u', v', hworks, hfrom, -, hto⟩ | hcases
  · intro c
    have hv := hworks.reckoningSound (fun d => (State.reckon_congr hfrom d).symm ▸ hu d) c
    exact (State.reckon_congr hto c).symm ▸ hv
  · exact fun c => (hcases c).2 (hu c)

/-- Settles O10: an evaluation's output lies within its caps, and every other event leaves or empties the gate. -/
theorem stepKeepsOutputsWithinTheirCaps : Obligations.StepKeepsOutputsWithinTheirCaps := by
  intro s t hs hstep
  refine step_preserves (P := State.GatesSound) (fun _ _ _ h => h) (fun i u v hu hevent => ?_) hs hstep
  rcases hevent.channels with ⟨u', v', hworks, hfrom, -, hto⟩ | hcases
  · intro c
    have hv := hworks.gatesSound (fun d => (State.gate_congr hfrom d).symm ▸ hu d) c
    exact (State.gate_congr hto c).symm ▸ hv
  · intro c
    rcases (hcases c).1 with h | h <;> rw [h]
    · exact hu c
    · exact Gate.initial_sound

/-- Settles O16: an evaluation's output and a stop at 0 both keep the side and, in a freeze, the magnitude. -/
theorem outputsPassThroughZeroAndDoNotGrowInAFreeze : Obligations.OutputsPassThroughZeroAndDoNotGrowInAFreeze := by
  intro i s t c hexec
  obtain ⟨t', hexec', hevent⟩ := exec_event i s
  cases hexec.symm.trans hexec'
  rcases hevent.channels with ⟨u, v, hworks, hfrom, hfreeze, hto⟩ | hcases
  · have houts := hworks.outputs c
    rw [State.gate_congr hfrom c, hfreeze, ← State.gate_congr hto c] at houts
    exact houts
  · have hsame : (s.advance i.elapsed).gate c = s.gate c := rfl
    rcases (hcases c).1 with h | h <;> rw [h]
    · exact ⟨mul_self_nonneg _, fun _ => le_rfl⟩
    · exact ⟨by simp [Gate.initial], fun _ => by simp [Gate.initial]⟩

end Sys2Proof.Machine
end


section
/-! The invariants on the trip line and on the frames that wait for channels in a forced state (sections 3.6, 7.4). -/

namespace Sys2Proof.Machine

theorem State.ctl_trippedAll (s : State) (c : Chan) : s.trippedAll.ctl c = s.trippedCtl c := by
  rw [State.ctl_eq, State.chan_trippedAll]

theorem State.trippedCtl_state (s : State) (c : Chan) : (s.trippedCtl c).state = .tripped := by
  unfold State.trippedCtl
  split
  · assumption
  · rfl

theorem State.ctl_activated_all (s : State) (c : Chan) :
    (s.activated .all).ctl c = s.takenOver.configuredCtl s.activeFilled c := by
  rw [State.ctl_eq, State.chan_activated_all]

/-- The completion of an ACTIVATE ALL takes UNCONFIGURED to PARKED and leaves every other state (R18). -/
theorem State.configuredCtl_state (s : State) (was : Bool) (c : Chan) :
    (s.configuredCtl was c).state = if (s.ctl c).state = .unconfigured then .parked else (s.ctl c).state := by
  unfold State.configuredCtl
  dsimp only
  split
  · rfl
  · split <;> rfl

/-! ## The trip line -/

theorem State.Works.tripHolds {i : Instr} {s t : State} (h : State.Works i s t) (hs : s.TripHolds) : t.TripHolds := by
  induction h with
  | refl => exact hs
  | ctl _ hmove ih =>
    refine ⟨fun htrip hline d => ?_, ih.noReset⟩
    rw [State.withCtl, State.ctl_withChan]
    split
    · exact hmove.tripped htrip (ih.tripped htrip hline _)
    · exact ih.tripped htrip hline d
  | gate _ _ ih | reckon _ _ ih | notes _ _ ih =>
    refine ⟨fun htrip hline d => ?_, ih.noReset⟩
    rw [State.ctl_withChan]
    split
    · exact ih.tripped htrip hline _
    · exact ih.tripped htrip hline d
  | resetPending _ _ hline ih => exact ⟨ih.tripped, fun hne => absurd hline hne⟩
  | _ => rename_i ih; exact ⟨ih.tripped, ih.noReset⟩

/-- A sampled line that is asserted has taken every channel (R150). -/
theorem State.tripHolds_sampleTrip {u : State} (hline : u.resetLine = .negated) : u.sampleTrip.TripHolds := by
  rw [State.sampleTrip_eq]
  split
  · exact ⟨fun _ _ c => by rw [State.ctl_trippedAll, State.trippedCtl_state], fun hne => absurd hline hne⟩
  · exact ⟨fun htrip => absurd htrip ‹_›, fun hne => absurd hline hne⟩

theorem State.TripHolds.answered {t : State} (h : t.TripHolds) (kind : TxKind) (f : Frame) (r : Result)
    (d : List Byte) : (t.answerAs kind f r d).TripHolds := by
  rw [State.answerAs_eq]
  exact ⟨h.tripped, h.noReset⟩

theorem State.TripHolds.activated {s : State} (h : s.TripHolds) (scope : Scope) : (s.activated scope).TripHolds := by
  cases scope with
  | all =>
    have hframe : (s.activated .all).tripLine = s.tripLine ∧ (s.activated .all).resetLine = s.resetLine
        ∧ (s.activated .all).resetPending = s.resetPending := by
      rw [State.activated_all_eq]; exact ⟨rfl, rfl, rfl⟩
    obtain ⟨htrip, hline, hpending⟩ := hframe
    refine ⟨fun hasserted hawake c => ?_, fun hne => hpending.trans (h.noReset (hline ▸ hne))⟩
    have hstate : (s.takenOver.ctl c).state = .tripped := h.tripped (htrip ▸ hasserted) (hline ▸ hawake) c
    rw [State.ctl_activated_all, State.configuredCtl_state, hstate]
    rfl
  | zones => exact ⟨h.tripped, h.noReset⟩

theorem State.Event.tripHolds {i : Instr} {s t : State} (h : State.Event i s t) (hs : s.TripHolds) : t.TripHolds := by
  cases h with
  | works h => exact h.tripHolds hs
  | answered kind f r d _ _ _ h => exact (h.tripHolds ⟨hs.tripped, hs.noReset⟩).answered kind f r d
  | begun => exact ⟨hs.tripped, hs.noReset⟩
  | ended f r d =>
    exact State.TripHolds.answered (t := { s with activation := none }) ⟨hs.tripped, hs.noReset⟩ .reply f r d
  | activated dt scope f d =>
    exact (State.TripHolds.activated (s := { s with activation := none }) ⟨hs.tripped, hs.noReset⟩ scope).answered
      .reply f .ok d
  | tripped =>
    rw [State.trip_eq]
    exact ⟨fun _ _ c => by rw [State.ctl_trippedAll, State.trippedCtl_state], hs.noReset⟩
  | level b n hb => exact ⟨fun htrip hline => absurd (hb htrip) hline, hs.noReset⟩
  | held hline => exact ⟨fun htrip _ => hs.tripped htrip (by rw [hline]; nofun), fun _ => rfl⟩
  | ringReset hawake =>
    have hline : s.resetLine ≠ .fullReset := hawake.elim id fun hpending heq =>
      hpending (hs.noReset (by rw [heq]; nofun))
    exact ⟨fun htrip _ => hs.tripped htrip hline, fun hne => absurd rfl hne⟩
  | fullBegun =>
    rw [State.beginFullReset_eq]
    exact ⟨fun _ hne => absurd rfl hne, fun _ => rfl⟩
  | fullComplete straps => rw [State.completeFullReset_sampled]; exact State.tripHolds_sampleTrip rfl
  | fullNow straps => rw [State.completeFullReset_sampled]; exact State.tripHolds_sampleTrip rfl
  | powerOn dt straps => exact State.tripHolds_sampleTrip rfl

/-- Settles O12: no change leaves TRIPPED while the line is asserted, and a reset that ends samples the line. -/
theorem stepKeepsTheTripInForce : Obligations.StepKeepsTheTripInForce := fun _ _ hs hstep =>
  step_preserves (P := State.TripHolds) (fun _ _ _ h => ⟨h.tripped, h.noReset⟩) (fun _ _ _ hu h => h.tripHolds hu) hs
    hstep

/-! ## Frames that wait for channels in a forced state -/

theorem State.ForcedFramesWait.stands {s : State} (h : s.ForcedFramesWait) {c : Chan}
    (hforced : (s.ctl c).state.forced = true) : s.portD.Stands c := fun e he hk => h.forced e he c hk hforced

theorem State.forcedFramesWait_of_stands {s : State}
    (hstands : ∀ c, (s.ctl c).state.forced = true → s.portD.Stands c)
    (hheld : s.resetLine ≠ .negated → s.portD.tx = []) : s.ForcedFramesWait :=
  ⟨fun e he c hk hforced => hstands c hforced e he hk, hheld⟩

theorem State.forcedFramesWait_of_empty {s : State} (hnone : s.portD.tx = []) : s.ForcedFramesWait :=
  State.forcedFramesWait_of_stands (fun _ _ e he => by rw [hnone] at he; cases he) fun _ => hnone

theorem State.Works.forcedFramesWait {i : Instr} {s t : State} (h : State.Works i s t) (hs : s.ForcedFramesWait) :
    t.ForcedFramesWait := by
  induction h with
  | refl => exact hs
  | ctl _ hmove ih =>
    refine State.forcedFramesWait_of_stands (fun d hforced => ?_) ih.held
    rw [State.withCtl, State.ctl_withChan] at hforced
    split at hforced
    · subst d
      exact (hmove.forced hforced).elim ih.stands id
    · exact ih.stands hforced
  | gate _ _ ih | reckon _ _ ih | notes _ _ ih =>
    refine State.forcedFramesWait_of_stands (fun d hforced => ?_) ih.held
    rw [State.ctl_withChan] at hforced
    split at hforced
    · subst d; exact ih.stands hforced
    · exact ih.stands hforced
  | portD _ hmove ih =>
    exact State.forcedFramesWait_of_stands (fun d hforced => hmove.stands d hforced (ih.stands hforced))
      fun hne => hmove.heldTx hne (ih.held hne)
  | _ => rename_i ih; exact ⟨ih.forced, ih.held⟩

/-- Where the newly forced channels' entries are rewritten, all that wait for channels in a forced state stand (R72). -/
theorem Port.stands_of_forcing {q : Port} {p : Chan → Bool} {c : Chan} (h : p c = false → q.Stands c) :
    ({ q with tx := Machine.forceWhere p q.tx } : Port).Stands c := by
  cases hp : p c with
  | true => exact q.stands_forceWhere hp
  | false => exact (h hp).forceWhere p

/-- An assertion of TRIP_N rewrites every waiting drive entry but those of channels TRIPPED before (R147). -/
theorem State.ForcedFramesWait.trippedAll {s : State} (h : s.ForcedFramesWait) : s.trippedAll.ForcedFramesWait := by
  refine State.forcedFramesWait_of_stands (fun c _ => Port.stands_of_forcing fun hbefore => h.stands ?_) fun hne => ?_
  · rw [bne_eq_false_iff_eq.1 hbefore]; rfl
  · change forceWhere _ s.portD.tx = []
    rw [h.held hne]; rfl

theorem State.ForcedFramesWait.answered {t : State} (h : t.ForcedFramesWait) (kind : TxKind) (f : Frame) (r : Result)
    (d : List Byte) : (t.answerAs kind f r d).ForcedFramesWait := by
  rw [State.answerAs_eq]
  exact ⟨h.forced, h.held⟩

/-- The completion of an ACTIVATE ALL rewrites the entries of the channels that enter PARKED (R18, R72). -/
theorem State.ForcedFramesWait.activated {s : State} (h : s.ForcedFramesWait) (scope : Scope) :
    (s.activated scope).ForcedFramesWait := by
  cases scope with
  | all =>
    have hport : (s.activated .all).portD.tx = forceWhere (fun d => (s.ctl d).state == .unconfigured) s.portD.tx := by
      rw [State.activated_all_eq]; rfl
    have hline : (s.activated .all).resetLine = s.resetLine := by rw [State.activated_all_eq]; rfl
    refine State.forcedFramesWait_of_stands (fun c hforced e he => ?_) fun hne => ?_
    · rw [hport] at he
      rw [State.ctl_activated_all, State.configuredCtl_state] at hforced
      have hstate : (s.takenOver.ctl c).state = (s.ctl c).state := rfl
      rw [hstate] at hforced
      refine Port.stands_of_forcing (fun hbefore => h.stands ?_) e he
      have hconfigured : (s.ctl c).state ≠ .unconfigured := beq_eq_false_iff_ne.1 hbefore
      rwa [if_neg hconfigured] at hforced
    · rw [hport, h.held (hline ▸ hne)]; rfl
  | zones => exact ⟨h.forced, h.held⟩

theorem State.Event.forcedFramesWait {i : Instr} {s t : State} (h : State.Event i s t) (hs : s.ForcedFramesWait) :
    t.ForcedFramesWait := by
  have hsampled (u : State) (hnone : u.portD.tx = []) : u.sampleTrip.ForcedFramesWait := by
    rw [State.sampleTrip_eq]
    split
    · exact (State.forcedFramesWait_of_empty hnone).trippedAll
    · exact State.forcedFramesWait_of_empty hnone
  cases h with
  | works h => exact h.forcedFramesWait hs
  | answered kind f r d _ _ _ h => exact (h.forcedFramesWait ⟨hs.forced, hs.held⟩).answered kind f r d
  | begun => exact ⟨hs.forced, hs.held⟩
  | ended f r d =>
    exact State.ForcedFramesWait.answered (t := { s with activation := none }) ⟨hs.forced, hs.held⟩ .reply f r d
  | activated dt scope f d =>
    exact (State.ForcedFramesWait.activated (s := { s with activation := none }) ⟨hs.forced, hs.held⟩ scope).answered
      .reply f .ok d
  | tripped =>
    rw [State.trip_eq]
    exact State.ForcedFramesWait.trippedAll ⟨hs.forced, hs.held⟩
  | level => exact ⟨hs.forced, hs.held⟩
  | held => exact State.forcedFramesWait_of_empty rfl
  | ringReset => exact State.forcedFramesWait_of_empty rfl
  | fullBegun t₀ hline =>
    rw [State.beginFullReset_eq]
    exact State.forcedFramesWait_of_empty (hs.held (by rw [hline]; nofun))
  | fullComplete straps => rw [State.completeFullReset_sampled]; exact hsampled _ rfl
  | fullNow straps => rw [State.completeFullReset_sampled]; exact hsampled _ rfl
  | powerOn dt straps => exact hsampled _ rfl

/-- Settles O13: a frame handed over for a forced channel commands standstill, and a channel comes into a forced state
with its waiting entry rewritten. -/
theorem stepKeepsForcedFramesAtStandstill : Obligations.StepKeepsForcedFramesAtStandstill := fun _ _ hs hstep =>
  step_preserves (P := State.ForcedFramesWait) (fun _ _ _ h => ⟨h.forced, h.held⟩)
    (fun _ _ _ hu h => h.forcedFramesWait hu) hs hstep

end Sys2Proof.Machine
end


section
/-! The invariant on the controllers (sections 4.1 to 4.3, 5.4, 6.2, 7.1, 7.2): every record fits its state. -/

namespace Sys2Proof.Machine

/-- The invariant speaks of the controllers, the configuration, the line and what is pending in a full reset. -/
theorem State.ControllersFit.congr {s t : State} (h : s.ControllersFit) (hctl : ∀ c, t.ctl c = s.ctl c)
    (hfilled : t.activeFilled = s.activeFilled) (hline : t.resetLine = s.resetLine)
    (hpending : s.resetLine = .fullReset → t.resetPending = s.resetPending ∧ t.activation = s.activation) :
    t.ControllersFit where
  fits c := hctl c ▸ h.fits c
  without hf c := by rw [hctl]; exact h.without (hfilled ▸ hf) c
  configured hf c := by rw [hctl]; exact h.configured (hfilled ▸ hf) c
  timers hf hawake c := by rw [hctl]; exact h.timers (hfilled ▸ hf) (hline ▸ hawake) c
  asleep hasleep := by
    rw [hline] at hasleep
    obtain ⟨hreset, hactivation, hstates⟩ := h.asleep hasleep
    refine ⟨(hpending hasleep).1.trans hreset, (hpending hasleep).2.trans hactivation, fun c => ?_⟩
    rw [hctl, hfilled]
    exact hstates c

/-- The ring reset and the taking of a request happen outside a full reset, and leave the controllers. -/
theorem State.ControllersFit.congr_awake {s t : State} (h : s.ControllersFit) (hs : s.resetLine ≠ .fullReset)
    (ht : t.resetLine ≠ .fullReset) (hctl : ∀ c, t.ctl c = s.ctl c) (hfilled : t.activeFilled = s.activeFilled) :
    t.ControllersFit := by
  rw [State.controllersFit_iff hs] at h
  rw [State.controllersFit_iff ht]
  intro c
  rw [hctl, hfilled]
  exact h c

/-! ## Chains of changes -/

theorem State.Works.controllersFit {i : Instr} {s t : State} (h : State.Works i s t) (hs : s.ControllersFit) :
    t.ControllersFit := by
  have hkept (u : State) (c d : Chan) (x : Channel) (hx : x.ctl = u.ctl c) : (u.withChan c x).ctl d = u.ctl d := by
    rw [State.ctl_withChan]
    split
    · subst d; exact hx
    · rfl
  induction h with
  | refl => exact hs
  | ctl _ hmove ih =>
    rw [State.controllersFit_iff hmove.awake] at ih
    refine (State.controllersFit_iff (s := State.withCtl _ _ _) hmove.awake).2 fun d => ?_
    rw [State.withCtl, State.ctl_withChan]
    split
    · exact hmove.agrees (ih _)
    · exact ih d
  | gate _ _ ih | reckon _ _ ih | notes _ _ ih =>
    exact ih.congr (fun d => hkept _ _ d _ rfl) rfl rfl fun _ => ⟨rfl, rfl⟩
  | resetPending _ _ hline ih =>
    exact ih.congr (fun _ => rfl) rfl rfl fun hasleep => absurd (hline.symm.trans hasleep) nofun
  | _ => rename_i ih; exact ih.congr (fun _ => rfl) rfl rfl fun _ => ⟨rfl, rfl⟩

/-! ## Trip -/

/-- TRIPPED holds nothing, and runs the timers of a channel with a hoist record alone (R147). -/
theorem State.trippedCtl_agrees {s : State} {c : Chan} (h : (s.ctl c).Agrees s.activeFilled) :
    (s.trippedCtl c).Agrees s.activeFilled := by
  unfold State.trippedCtl
  split
  · exact h
  · cases hfilled : s.activeFilled with
    | true =>
      rw [hfilled, Controller.agrees_filled_iff] at h
      exact (Controller.agrees_filled_iff _).2 (Controller.Empty.live ⟨rfl, rfl, rfl, rfl, rfl, rfl, rfl, nofun, nofun,
        h.feedback, s.emissionOn_isSome c⟩ rfl)
    | false =>
      exact ⟨⟨by simp [Controller.bare], by simp [Controller.bare], by simp [Controller.bare, Controller.unlisted,
        ChanState.holdsDescriptor], by simp, by simp, nofun, nofun, nofun, nofun⟩, fun _ => ⟨.inr rfl, rfl, rfl⟩,
        nofun, nofun⟩

theorem State.controllersFit_trippedAll {s : State} (hawake : s.resetLine ≠ .fullReset)
    (h : ∀ c, (s.ctl c).Agrees s.activeFilled) : s.trippedAll.ControllersFit := by
  refine (State.controllersFit_iff (s := s.trippedAll) hawake).2 fun c => ?_
  rw [State.ctl_trippedAll]
  exact State.trippedCtl_agrees (h c)

theorem State.controllersFit_sampleTrip {s : State} (hawake : s.resetLine ≠ .fullReset)
    (h : ∀ c, (s.ctl c).Agrees s.activeFilled) : s.sampleTrip.ControllersFit := by
  rw [State.sampleTrip_eq]
  split
  · exact State.controllersFit_trippedAll hawake h
  · exact (State.controllersFit_iff hawake).2 h

/-! ## Activation -/

/-- The completion of an ACTIVATE ALL gives every channel its timers: UNCONFIGURED enters PARKED, and TRIPPED stays
(R18, R79, R147). -/
theorem State.configuredCtl_live {s : State} {was : Bool} {c : Chan} (h : (s.ctl c).Agrees was) :
    (s.configuredCtl was c).Live := by
  have hf := h.fits
  unfold State.configuredCtl
  dsimp only
  split
  · rename_i hstate
    have hholds : (s.ctl c).state.holdsDescriptor = false := by rw [hstate]; rfl
    have hbrake := hf.brake_none (by rw [hstate]; rfl)
    exact Controller.Empty.live ⟨hf.slot_none (by simp [hstate]), hf.duration_none (by simp [hstate]),
      hf.current_none hholds, hf.demand_none (by simp [hstate]), hf.prove_none (by simp [hstate]),
      hf.dwell_none (by simp [hstate]), hf.carried_none hholds, fun hb => by simp [hbrake] at hb, nofun, rfl, rfl⟩ rfl
  · rename_i hconfigured
    split
    · rename_i htripped
      obtain ⟨hstate, -⟩ := htripped
      have hholds : (s.ctl c).state.holdsDescriptor = false := by rw [hstate]; rfl
      refine Controller.Empty.live ⟨hf.slot_none (by simp [hstate]), hf.duration_none (by simp [hstate]),
        hf.current_none hholds, hf.demand_none (by simp [hstate]), hf.prove_none (by simp [hstate]),
        hf.dwell_none (by simp [hstate]), hf.carried_none hholds, hf.brake, hf.watch, rfl, rfl⟩ ?_
      exact (congrArg ChanState.plain hstate).trans rfl
    · rename_i hnot
      cases was with
      | true => exact (Controller.agrees_filled_iff _).1 h
      | false => exact absurd (h.without rfl).1 (by simpa [hconfigured] using hnot)

theorem State.ControllersFit.activated {s : State} (h : s.ControllersFit) (hawake : s.resetLine ≠ .fullReset)
    (scope : Scope) : (s.activated scope).ControllersFit := by
  cases scope with
  | all =>
    have hframe : (s.activated .all).resetLine = s.resetLine ∧ (s.activated .all).activeFilled = true := by
      rw [State.activated_all_eq]; exact ⟨rfl, rfl⟩
    rw [State.controllersFit_iff hawake] at h
    refine (State.controllersFit_iff (hframe.1 ▸ hawake)).2 fun c => ?_
    rw [hframe.2, Controller.agrees_filled_iff, State.ctl_activated_all]
    exact State.configuredCtl_live (h c)
  | zones => exact h.congr (fun _ => rfl) rfl rfl fun _ => ⟨rfl, rfl⟩

/-! ## Full reset -/

theorem Controller.initial_fits {st : ChanState} (m : Moment) (hst : st = .parkingSet ∨ st = .unconfigured) :
    (Controller.initial st m).Fits := by
  rcases hst with rfl | rfl <;> constructor <;> simp [Controller.initial, ChanState.holdsDescriptor]

/-- The channels from the beginning of a full reset to the release (R77). -/
structure State.Asleep (s : State) : Prop where
  fits : ∀ c, (s.ctl c).Fits
  state : ∀ c, (s.ctl c).state = if s.activeFilled then .parkingSet else .unconfigured
  without : s.activeFilled = false → ∀ c, (s.ctl c).emission = none ∧ (s.ctl c).feedback = none

theorem State.ControllersFit.sleeping {s : State} (h : s.ControllersFit) (hasleep : s.resetLine = .fullReset) :
    s.Asleep :=
  ⟨h.fits, (h.asleep hasleep).2.2, fun hf c => (h.without hf c).2⟩

theorem State.beginFullReset_asleep (s : State) : s.beginFullReset.Asleep := by
  have hctl (c : Chan) : s.beginFullReset.ctl c =
      .initial (if s.activeFilled then .parkingSet else .unconfigured) s.moment := by
    rw [State.ctl_eq, State.chan_beginFullReset]; rfl
  have hfilled : s.beginFullReset.activeFilled = s.activeFilled := by rw [State.beginFullReset_eq]; rfl
  refine ⟨fun c => ?_, fun c => ?_, fun _ c => ?_⟩
  · rw [hctl]
    exact Controller.initial_fits _ (by cases s.activeFilled <;> simp)
  · rw [hctl, hfilled]; rfl
  · rw [hctl]; exact ⟨rfl, rfl⟩

/-- The release starts the timers of a channel with a hoist record (R77). -/
theorem State.Asleep.released {s : State} (h : s.Asleep) (straps : BitVec 4) (c : Chan) :
    ((s.released straps).ctl c).Agrees s.activeFilled := by
  have hctl : (s.released straps).ctl c = (s.releasedChan c).ctl := by rw [State.ctl_eq, State.chan_released]
  have hstate := h.state c
  have hf := h.fits c
  rw [hctl]
  cases hfilled : s.activeFilled with
  | true =>
    rw [hfilled, if_pos rfl] at hstate
    have hholds : (s.ctl c).state.holdsDescriptor = false := by rw [hstate]; rfl
    rw [Controller.agrees_filled_iff, State.releasedChan, if_pos hstate]
    refine Controller.Empty.live ⟨hf.slot_none (by simp [hstate]), hf.duration_none (by simp [hstate]),
      hf.current_none hholds, hf.demand_none (by simp [hstate]), hf.prove_none (by simp [hstate]),
      hf.dwell_none (by simp [hstate]), hf.carried_none hholds, fun _ => ?_, hf.watch, rfl, rfl⟩ ?_
    · exact (congrArg ChanState.confirming hstate).trans rfl
    · exact (congrArg ChanState.plain hstate).trans rfl
  | false =>
    rw [hfilled] at hstate
    have hstate : (s.ctl c).state = .unconfigured := hstate
    rw [State.releasedChan, if_neg (by rw [hstate]; nofun)]
    exact ⟨⟨hf.slot, hf.duration, hf.current, hf.demand, hf.prove, hf.brake, hf.dwell, hf.carried, hf.watch⟩,
      fun _ => ⟨.inl hstate, h.without hfilled c⟩, nofun, nofun⟩

theorem State.Asleep.completed {s : State} (h : s.Asleep) (straps : BitVec 4) :
    (s.completeFullReset straps).ControllersFit := by
  rw [State.completeFullReset_sampled]
  exact State.controllersFit_sampleTrip (s := s.released straps) nofun (h.released straps)

/-! ## Every event -/

theorem State.Event.controllersFit {i : Instr} {s t : State} (h : State.Event i s t) (hs : s.ControllersFit) :
    t.ControllersFit := by
  have hanswered {u : State} (hu : u.ControllersFit) (kind : TxKind) (f : Frame) (r : Result) (d : List Byte) :
      (u.answerAs kind f r d).ControllersFit := by
    rw [State.answerAs_eq]
    exact hu.congr (fun _ => rfl) rfl rfl fun _ => ⟨rfl, rfl⟩
  have hunfinished (hactivation : s.activation ≠ none) : s.resetLine ≠ .fullReset := fun hasleep =>
    hactivation (hs.asleep hasleep).2.1
  cases h with
  | works h => exact h.controllersFit hs
  | answered kind f r d _ _ _ h =>
    exact hanswered (h.controllersFit (hs.congr (fun _ => rfl) rfl rfl fun _ => ⟨rfl, rfl⟩)) kind f r d
  | begun a hready =>
    have hawake : s.resetLine ≠ .fullReset := ne_of_eq_of_ne (State.line_of_engineReady hready) nofun
    exact hs.congr_awake hawake hawake (fun _ => rfl) rfl
  | ended f r d hactivation =>
    exact hanswered (u := { s with activation := none }) (hs.congr (fun _ => rfl) rfl rfl fun hasleep =>
      absurd hasleep (hunfinished hactivation)) .reply f r d
  | activated dt scope f d hactivation =>
    have hcleared : State.ControllersFit { s with activation := none } :=
      hs.congr (fun _ => rfl) rfl rfl fun hasleep => absurd hasleep (hunfinished hactivation)
    exact hanswered (hcleared.activated (hunfinished hactivation) scope) .reply f .ok d
  | tripped hawake =>
    rw [State.trip_eq]
    exact State.controllersFit_trippedAll (s := { s with tripLine := true }) hawake
      ((State.controllersFit_iff hawake).1 hs)
  | level => exact hs.congr (fun _ => rfl) rfl rfl fun _ => ⟨rfl, rfl⟩
  | held hline => exact hs.congr_awake (by rw [hline]; nofun) nofun (fun _ => rfl) rfl
  | ringReset hawake =>
    refine hs.congr_awake ?_ (t := s.ringReset) nofun (fun _ => rfl) rfl
    exact hawake.elim id fun hpending hasleep => hpending (hs.asleep hasleep).1
  | fullBegun =>
    have hasleep := s.beginFullReset_asleep
    refine ⟨hasleep.fits, fun hf c => ⟨.inl ?_, hasleep.without hf c⟩, fun hf c => ?_, fun _ hne => absurd rfl hne,
      fun _ => ⟨?_, ?_, hasleep.state⟩⟩
    · have hstate := hasleep.state c
      rw [show s.beginFullReset.activeFilled = false from hf] at hstate
      exact hstate
    · have hstate := hasleep.state c
      rw [show s.beginFullReset.activeFilled = true from hf, if_pos rfl] at hstate
      exact ne_of_eq_of_ne hstate nofun
    · rw [State.beginFullReset_eq]
    · rw [State.beginFullReset_eq]
  | fullComplete straps hasleep => exact (hs.sleeping hasleep).completed straps
  | fullNow straps => exact s.beginFullReset_asleep.completed straps
  | powerOn dt straps =>
    refine State.controllersFit_sampleTrip (s := s.poweredOn straps) nofun fun c => ?_
    have hctl : (s.poweredOn straps).ctl c = .initial .unconfigured s.moment :=
      congrArg Channel.ctl (Quad.get_fill _ c)
    rw [hctl]
    exact ⟨Controller.initial_fits _ (.inr rfl), fun _ => ⟨.inl rfl, rfl, rfl⟩, nofun, nofun⟩

/-- Settles O11: every change of a record leaves one that fits, and the resets, the trip and an ACTIVATE ALL too. -/
theorem stepKeepsControllersFittingTheirStates : Obligations.StepKeepsControllersFittingTheirStates :=
  fun _ _ hs hstep => step_preserves (P := State.ControllersFit)
    (fun _ _ _ h => h.congr (fun _ => rfl) rfl rfl fun _ => ⟨rfl, rfl⟩) (fun _ _ _ hu h => h.controllersFit hu) hs hstep

end Sys2Proof.Machine
end


section
/-! The invariant on the queues (sections 8.1 to 8.3, 9.1): ports and request queue keep their bounds, and are empty
while RESET_N is asserted. -/

namespace Sys2Proof.Machine

/-- The bounds of the queues, the reservation counted but not yet told from an activation: what holds also between the
taking of a request and its reply. -/
structure State.Roomy (s : State) : Prop where
  portU : s.portU.Bounded
  portD : s.portD.Bounded
  upPassing : s.portU.tx.countP TxEntry.isPassing ≤ 14
  upSlots : s.portU.tx.length + s.reserved.toNat ≤ 16
  upNoDrive : ∀ e ∈ s.portU.tx, ∀ c, e.kind ≠ .drive c
  downPassing : s.portD.tx.countP TxEntry.isPassing ≤ 12
  downDrives : ∀ c, s.portD.tx.countP (TxEntry.isDrive c) ≤ 1
  downNoReply : ∀ e ∈ s.portD.tx, e.kind ≠ .reply ∧ e.kind ≠ .resetReply
  requests : s.requests.length ≤ 4
  quiet : s.resetLine ≠ .negated → s.portU.rx = [] ∧ s.portU.tx = [] ∧ s.portD.rx = [] ∧ s.portD.tx = []

theorem State.QueuesBounded.roomy {s : State} (h : s.QueuesBounded) : s.Roomy :=
  ⟨h.portU, h.portD, h.upPassing, h.upSlots, h.upNoDrive, h.downPassing, h.downDrives, h.downNoReply, h.requests,
    fun hne => by
      obtain ⟨hru, htu, hrd, htd, -⟩ := h.held hne
      exact ⟨hru, htu, hrd, htd⟩⟩

theorem State.Roomy.bounded {s : State} (h : s.Roomy) (hreservation : s.reserved = s.activation.isSome)
    (hheld : s.resetLine ≠ .negated → s.activation = none ∧ s.resetPending = none) : s.QueuesBounded :=
  ⟨h.portU, h.portD, h.upPassing, h.upSlots, h.upNoDrive, h.downPassing, h.downDrives, h.downNoReply, h.requests,
    hreservation, fun hne => by
      obtain ⟨hru, htu, hrd, htd⟩ := h.quiet hne
      obtain ⟨hactivation, hpending⟩ := hheld hne
      exact ⟨hru, htu, hrd, htd, by rw [hreservation, hactivation]; rfl, hactivation, hpending⟩⟩

/-! ## Chains of changes -/

theorem State.Works.roomy {i : Instr} {s t : State} (h : State.Works i s t) (hs : s.Roomy) : t.Roomy := by
  induction h with
  | refl => exact hs
  | portU _ hmove ih =>
    refine ⟨hmove.bounded ih.portU, ih.portD, hmove.passing ih.upPassing, hmove.slots ih.upSlots,
      hmove.noDrive ih.upNoDrive, ih.downPassing, ih.downDrives, ih.downNoReply, ih.requests, fun hne => ?_⟩
    obtain ⟨hru, htu, hrd, htd⟩ := ih.quiet hne
    obtain ⟨hru', htu'⟩ := hmove.held hne hru htu
    exact ⟨hru', htu', hrd, htd⟩
  | portD _ hmove ih =>
    refine ⟨ih.portU, hmove.bounded ih.portD, ih.upPassing, ih.upSlots, ih.upNoDrive, hmove.passing ih.downPassing,
      fun c => hmove.drives c (ih.downDrives c), hmove.noReply ih.downNoReply, ih.requests, fun hne => ?_⟩
    obtain ⟨hru, htu, hrd, htd⟩ := ih.quiet hne
    exact ⟨hru, htu, hmove.heldRx hne hrd, hmove.heldTx hne htd⟩
  | request f _ hroom ih =>
    exact ⟨ih.portU, ih.portD, ih.upPassing, ih.upSlots, ih.upNoDrive, ih.downPassing, ih.downDrives, ih.downNoReply,
      by rw [List.length_append, List.length_singleton]; omega, ih.quiet⟩
  | _ =>
    rename_i ih
    exact ⟨ih.portU, ih.portD, ih.upPassing, ih.upSlots, ih.upNoDrive, ih.downPassing, ih.downDrives, ih.downNoReply,
      ih.requests, ih.quiet⟩

/-- A reset becomes pending with RESET_N negated alone (R178). -/
theorem State.Works.resetPending_none {i : Instr} {s t : State} (h : State.Works i s t)
    (hs : s.resetLine ≠ .negated → s.resetPending = none) : t.resetLine ≠ .negated → t.resetPending = none := by
  induction h with
  | refl => exact hs
  | resetPending _ _ hline _ => exact fun hne => absurd hline hne
  | _ => rename_i ih; exact ih

/-! ## Requests taken and answered -/

/-- The engine takes a request where port U has a slot for the reply (R174). -/
theorem State.QueuesBounded.taken {s : State} (h : s.QueuesBounded) (hready : s.engineReady = true) {g : Frame}
    {rest : List Frame} (hqueue : s.requests = g :: rest) :
    s.activation = none ∧ State.Roomy { s with requests := rest, reserved := true } := by
  have hr := h.roomy
  simp only [State.engineReady, Bool.and_eq_true, Option.isNone_iff_eq_none, decide_eq_true_eq] at hready
  obtain ⟨⟨⟨hactivation, -⟩, -⟩, hslots⟩ := hready
  have hfree : s.reserved = false := by rw [h.reservation, hactivation]; rfl
  have hlen : s.portU.tx.length < 16 := by simpa [State.upSlots, hfree, Config.txDepth] using hslots
  refine ⟨hactivation, hr.portU, hr.portD, hr.upPassing, hlen, hr.upNoDrive, hr.downPassing, hr.downDrives,
    hr.downNoReply, ?_, hr.quiet⟩
  have hrequests := hr.requests
  rw [hqueue, List.length_cons] at hrequests
  exact Nat.le_of_succ_le hrequests

/-- The reply takes the reserved slot, or a STUCK port discards it (R161, R165). -/
theorem State.Roomy.answered {t : State} (h : t.Roomy) (hreserved : t.reserved = true) {kind : TxKind}
    (hkind : kind = .reply ∨ kind = .resetReply) (f : Frame) (r : Result) (d : List Byte) :
    (t.answerAs kind f r d).Roomy := by
  have hslots := h.upSlots
  rw [hreserved] at hslots
  have hslots : t.portU.tx.length + 1 ≤ 16 := hslots
  rw [State.answerAs_eq]
  by_cases hopen : t.portOpen .u = true
  · obtain ⟨hlive, hline⟩ := (t.portOpen_iff .u).1 hopen
    simp only [if_pos hopen]
    refine ⟨h.portU.withTx fun hstuck => absurd (hlive.symm.trans hstuck) nofun, h.portD, ?_, ?_, fun e he => ?_,
      h.downPassing, h.downDrives, h.downNoReply, h.requests, fun hne => absurd hline hne⟩
    · rw [List.countP_append, List.countP_singleton]
      rcases hkind with rfl | rfl <;> exact h.upPassing
    · rw [List.length_append]; exact hslots
    · rcases List.mem_append.1 he with he | he
      · exact h.upNoDrive e he
      · rw [List.mem_singleton.1 he]
        rcases hkind with rfl | rfl <;> nofun
  · simp only [if_neg hopen]
    exact ⟨h.portU, h.portD, h.upPassing, Nat.le_of_succ_le hslots, h.upNoDrive, h.downPassing, h.downDrives,
      h.downNoReply, h.requests, h.quiet⟩

theorem State.answerAs_activation (t : State) (kind : TxKind) (f : Frame) (r : Result) (d : List Byte) :
    (t.answerAs kind f r d).reserved = false ∧ (t.answerAs kind f r d).activation = t.activation
      ∧ (t.answerAs kind f r d).resetLine = t.resetLine := by
  rw [State.answerAs_eq]
  exact ⟨rfl, rfl, rfl⟩

/-- A reply ends the reservation where no activation holds it. -/
theorem State.Roomy.replied {t : State} (h : t.Roomy) (hreserved : t.reserved = true)
    (hactivation : t.activation = none)
    (hline : t.resetLine = .negated) {kind : TxKind} (hkind : kind = .reply ∨ kind = .resetReply) (f : Frame)
    (r : Result) (d : List Byte) : (t.answerAs kind f r d).QueuesBounded := by
  obtain ⟨hfree, hsame, hsameLine⟩ := t.answerAs_activation kind f r d
  refine (h.answered hreserved hkind f r d).bounded ?_ fun hne => ?_
  · rw [hfree, hsame, hactivation]; rfl
  · exact absurd (hsameLine.trans hline) hne

/-! ## Rewritten entries, ports in reset -/

/-- Rewriting the waiting drive entries keeps the queues (R72). -/
theorem State.Roomy.forcing {s : State} (h : s.Roomy) (p : Chan → Bool) : (s.forcing p).Roomy :=
  (State.Works.refl (i := .status 0).forcing p).roomy h

theorem Port.initial_bounded (now : Nat) : (Port.initial now).Bounded :=
  ⟨Nat.zero_le _, fun _ hf => absurd hf List.not_mem_nil, .inl (Nat.zero_le _), fun _ => rfl,
    fun _ => ⟨rfl, rfl, rfl, rfl⟩⟩

theorem Port.hold_bounded (q : Port) : q.hold.Bounded :=
  ⟨Nat.zero_le _, fun _ hf => absurd hf List.not_mem_nil, .inl (Nat.zero_le _), fun _ => rfl,
    fun _ => ⟨rfl, rfl, rfl, rfl⟩⟩

/-- Empty ports without a reservation keep every bound (R151, R155). -/
theorem State.Roomy.of_empty {s : State} (hu : s.portU.Bounded) (hd : s.portD.Bounded)
    (hempty : s.portU.rx = [] ∧ s.portU.tx = [] ∧ s.portD.rx = [] ∧ s.portD.tx = []) (hfree : s.reserved = false)
    (hrequests : s.requests.length ≤ 4) : s.Roomy := by
  obtain ⟨hru, htu, hrd, htd⟩ := hempty
  exact ⟨hu, hd, by simp [htu], by simp [htu, hfree], by simp [htu], by simp [htd], by simp [htd], by simp [htd],
    hrequests, fun _ => ⟨hru, htu, hrd, htd⟩⟩

theorem State.QueuesBounded.trippedAll {s : State} (h : s.QueuesBounded) : s.trippedAll.QueuesBounded := by
  have hforced := h.roomy.forcing fun c => (s.ctl c).state != .tripped
  refine State.Roomy.bounded ⟨hforced.portU, hforced.portD, hforced.upPassing, hforced.upSlots, hforced.upNoDrive,
    hforced.downPassing, hforced.downDrives, hforced.downNoReply, hforced.requests, hforced.quiet⟩ h.reservation
    fun hne => ?_
  obtain ⟨-, -, -, -, -, hactivation, hpending⟩ := h.held hne
  exact ⟨hactivation, hpending⟩

/-- A reset that ends leaves both ports empty and LIVE (R155), and the sampling of TRIP_N the queues as they are. -/
theorem State.queuesBounded_sampleTrip {u : State} (hline : u.resetLine = .negated)
    (hu : u.portU = .initial u.now) (hd : u.portD = .initial u.now) (hfree : u.reserved = false)
    (hactivation : u.activation = none) (hrequests : u.requests.length ≤ 4) : u.sampleTrip.QueuesBounded := by
  have hroomy : u.Roomy := .of_empty (hu ▸ Port.initial_bounded _) (hd ▸ Port.initial_bounded _)
    (by rw [hu, hd]; exact ⟨rfl, rfl, rfl, rfl⟩) hfree hrequests
  have hbounded := hroomy.bounded (by rw [hfree, hactivation]; rfl) fun hne => absurd hline hne
  rw [State.sampleTrip_eq]
  split
  · exact hbounded.trippedAll
  · exact hbounded

/-! ## Every event -/

/-- The completion of an activation leaves the queues but for rewritten drive entries (R18, R72). -/
theorem State.Roomy.activated {s : State} (h : s.Roomy) (scope : Scope) : (s.activated scope).Roomy := by
  cases scope with
  | all =>
    have hforced := h.forcing fun d => (s.ctl d).state == .unconfigured
    rw [State.activated_all_eq]
    exact ⟨hforced.portU, hforced.portD, hforced.upPassing, hforced.upSlots, hforced.upNoDrive, hforced.downPassing,
      hforced.downDrives, hforced.downNoReply, hforced.requests, hforced.quiet⟩
  | zones =>
    exact ⟨h.portU, h.portD, h.upPassing, h.upSlots, h.upNoDrive, h.downPassing, h.downDrives, h.downNoReply,
      h.requests, h.quiet⟩

theorem State.activated_same (s : State) (scope : Scope) :
    (s.activated scope).reserved = s.reserved ∧ (s.activated scope).activation = s.activation
      ∧ (s.activated scope).resetLine = s.resetLine := by
  cases scope with
  | all => rw [State.activated_all_eq]; exact ⟨rfl, rfl, rfl⟩
  | zones => exact ⟨rfl, rfl, rfl⟩

/-- While an activation is in progress RESET_N is negated and the reply's slot is reserved (R165, R177). -/
theorem State.QueuesBounded.unfinished {s : State} (h : s.QueuesBounded) (hactivation : s.activation ≠ none) :
    s.reserved = true ∧ s.resetLine = .negated ∧ State.Roomy { s with activation := none } := by
  have hr := h.roomy
  refine ⟨?_, ?_, hr.portU, hr.portD, hr.upPassing, hr.upSlots, hr.upNoDrive, hr.downPassing, hr.downDrives,
    hr.downNoReply, hr.requests, hr.quiet⟩
  · rw [h.reservation]
    exact Option.isSome_iff_ne_none.2 hactivation
  · by_contra hne
    obtain ⟨-, -, -, -, -, hnone, -⟩ := h.held hne
    exact hactivation hnone

theorem State.Event.queuesBounded {i : Instr} {s t : State} (h : State.Event i s t) (hs : s.QueuesBounded) :
    t.QueuesBounded := by
  cases h with
  | works h =>
    refine (h.roomy hs.roomy).bounded ?_ fun hne => ?_
    · rw [h.framed.reserved, h.framed.activation]; exact hs.reservation
    · have hnegated : s.resetLine ≠ .negated := h.framed.resetLine ▸ hne
      obtain ⟨-, -, -, -, -, hactivation, hpending⟩ := hs.held hnegated
      exact ⟨h.framed.activation.trans hactivation, h.resetPending_none (fun _ => hpending) hne⟩
  | answered kind f r d hready hqueue hkind h =>
    obtain ⟨hactivation, htaken⟩ := hs.taken hready hqueue
    have hline : s.resetLine = .negated := State.line_of_engineReady hready
    exact (h.roomy htaken).replied h.framed.reserved (h.framed.activation.trans hactivation)
      (h.framed.resetLine.trans hline) hkind f r d
  | begun a hready hqueue =>
    obtain ⟨-, htaken⟩ := hs.taken hready hqueue
    have hline := State.line_of_engineReady hready
    exact State.Roomy.bounded ⟨htaken.portU, htaken.portD, htaken.upPassing, htaken.upSlots, htaken.upNoDrive,
      htaken.downPassing, htaken.downDrives, htaken.downNoReply, htaken.requests, htaken.quiet⟩ rfl
      fun hne => absurd hline hne
  | ended f r d hactivation =>
    obtain ⟨hreserved, hline, hroomy⟩ := hs.unfinished hactivation
    exact hroomy.replied hreserved rfl hline (.inl rfl) f r d
  | activated dt scope f d hactivation =>
    obtain ⟨hreserved, hline, hroomy⟩ := hs.unfinished hactivation
    obtain ⟨hreserved', hactivation', hline'⟩ := State.activated_same { s with activation := none } scope
    exact (hroomy.activated scope).replied (hreserved'.trans hreserved) hactivation' (hline'.trans hline) (.inl rfl) f
      .ok d
  | tripped =>
    rw [State.trip_eq]
    exact State.QueuesBounded.trippedAll (s := { s with tripLine := true })
      ⟨hs.portU, hs.portD, hs.upPassing, hs.upSlots, hs.upNoDrive, hs.downPassing, hs.downDrives, hs.downNoReply,
        hs.requests, hs.reservation, hs.held⟩
  | level =>
    exact ⟨hs.portU, hs.portD, hs.upPassing, hs.upSlots, hs.upNoDrive, hs.downPassing, hs.downDrives, hs.downNoReply,
      hs.requests, hs.reservation, hs.held⟩
  | held =>
    exact State.Roomy.bounded (.of_empty (Port.hold_bounded _) (Port.hold_bounded _) ⟨rfl, rfl, rfl, rfl⟩ rfl
      hs.requests) rfl fun _ => ⟨rfl, rfl⟩
  | ringReset =>
    exact State.Roomy.bounded (.of_empty (Port.initial_bounded _) (Port.initial_bounded _) ⟨rfl, rfl, rfl, rfl⟩ rfl
      (Nat.zero_le _)) rfl fun _ => ⟨rfl, rfl⟩
  | fullBegun t₀ hline =>
    obtain ⟨hru, htu, hrd, htd, hfree, -, -⟩ := hs.held (by rw [hline]; nofun)
    rw [State.beginFullReset_eq]
    exact State.Roomy.bounded (.of_empty hs.portU hs.portD ⟨hru, htu, hrd, htd⟩ hfree (Nat.zero_le _)) hfree
      fun _ => ⟨rfl, rfl⟩
  | fullComplete straps hasleep =>
    obtain ⟨-, -, -, -, -, hactivation, -⟩ := hs.held (by rw [hasleep]; nofun)
    rw [State.completeFullReset_sampled]
    exact State.queuesBounded_sampleTrip rfl rfl rfl rfl hactivation hs.requests
  | fullNow straps =>
    rw [State.completeFullReset_sampled, State.beginFullReset_eq]
    exact State.queuesBounded_sampleTrip rfl rfl rfl rfl rfl (Nat.zero_le _)
  | powerOn dt straps => exact State.queuesBounded_sampleTrip rfl rfl rfl rfl rfl (Nat.zero_le _)

/-- Settles O8: a chain of changes keeps the bounds, a reply takes the slot reserved for it, and a reset empties the
ports. -/
theorem stepKeepsTheQueuesBounded : Obligations.StepKeepsTheQueuesBounded := fun _ _ hs hstep =>
  step_preserves (P := State.QueuesBounded)
    (fun _ _ _ h => ⟨h.portU, h.portD, h.upPassing, h.upSlots, h.upNoDrive, h.downPassing, h.downDrives, h.downNoReply,
      h.requests, h.reservation, h.held⟩) (fun _ _ _ hu h => h.queuesBounded hu) hs hstep

end Sys2Proof.Machine
end
